-- ==== Sys2Proof/Word.lean ====
section
/-! DEFINITION. Word.lean: the two word types of the machine. -/

namespace Sys2Proof

/-- R12, R15: a byte, the width of A, X, Y, SP and of a memory cell. -/
abbrev Byte := BitVec 8

/-- R12, R15: a 16-bit word, the width of PC and of every address. -/
abbrev Word := BitVec 16

end Sys2Proof
end

