-- ==== Sys2Proof/Machine/Bytes.lean ====
section
/-! DEFINITION. Machine/Bytes.lean: byte order and sign extension, decided once. -/

namespace Sys2Proof

/-- R15, R63: the 16-bit value of a low and a high byte, `low | (high << 8)`. -/
def wordOf (lo hi : Byte) : Word := lo.setWidth 16 ||| (hi.setWidth 16 <<< 8)

/-- The low byte of a word, `w & 0xFF`. -/
def lowByte (w : Word) : Byte := w.setWidth 8

/-- The high byte of a word, `w >> 8`. -/
def highByte (w : Word) : Byte := (w >>> 8).setWidth 8

/-- R92, R124: the displacement a branch's operand byte stands for, `b - 256` when bit 7 is set. -/
def displacementOf (b : Byte) : Int := if b.msb then (b.toNat : Int) - 256 else b.toNat

/-- R92: the operand byte of a displacement in -128..+127. -/
def displacementByte (d : Int) : Byte := BitVec.ofInt 8 d

end Sys2Proof
end

