-- ==== Sys2Proof/Syntax.lean ====
section
/-! DEFINITION. Syntax.lean: the instructions, one constructor per row of spec/opcode_table.json (151 rows, R93). -/

namespace Sys2Proof

/-- R2: the 56 mnemonics. -/
inductive Mnemonic where
  | adc | sbc | and | ora | eor | asl | lsr | rol
  | ror | cmp | cpx | cpy | bit | bcc | bcs | beq
  | bne | bmi | bpl | bvc | bvs | inc | dec | inx
  | iny | dex | dey | lda | ldx | ldy | tax | tay
  | txa | tya | tsx | txs | sta | stx | sty | pha
  | php | pla | plp | jsr | rts | rti | brk | jmp
  | sec | clc | sei | cli | sed | cld | clv | nop
  deriving DecidableEq, Repr

/-- R2: the 13 addressing modes. -/
inductive Mode where
  | immediate | zeropage | zeropageX | zeropageY | absolute
  | absoluteX | absoluteY | indirect | xIndirect | indirectY
  | relative | accumulator | implied
  deriving DecidableEq, Repr

/-- R92: the operand an instruction's bytes assemble: nothing, an 8-bit datum or zero-page address, a 16-bit address, or
a displacement. -/
inductive Arg where
  | none
  | byte (b : Byte)
  | word (w : Word)
  | rel (d : Int)
  deriving DecidableEq, Repr

/-- R93: an instruction, one constructor per opcode: its mnemonic and addressing mode, with the operand of R92. -/
inductive Instr where
  | adcImmediate (v : Byte) | adcZeropage (z : Byte) | adcZeropageX (z : Byte) | adcAbsolute (w : Word)
  | adcAbsoluteX (w : Word) | adcAbsoluteY (w : Word) | adcXIndirect (z : Byte) | adcIndirectY (z : Byte)
  | sbcImmediate (v : Byte) | sbcZeropage (z : Byte) | sbcZeropageX (z : Byte) | sbcAbsolute (w : Word)
  | sbcAbsoluteX (w : Word) | sbcAbsoluteY (w : Word) | sbcXIndirect (z : Byte) | sbcIndirectY (z : Byte)
  | andImmediate (v : Byte) | andZeropage (z : Byte) | andZeropageX (z : Byte) | andAbsolute (w : Word)
  | andAbsoluteX (w : Word) | andAbsoluteY (w : Word) | andXIndirect (z : Byte) | andIndirectY (z : Byte)
  | oraImmediate (v : Byte) | oraZeropage (z : Byte) | oraZeropageX (z : Byte) | oraAbsolute (w : Word)
  | oraAbsoluteX (w : Word) | oraAbsoluteY (w : Word) | oraXIndirect (z : Byte) | oraIndirectY (z : Byte)
  | eorImmediate (v : Byte) | eorZeropage (z : Byte) | eorZeropageX (z : Byte) | eorAbsolute (w : Word)
  | eorAbsoluteX (w : Word) | eorAbsoluteY (w : Word) | eorXIndirect (z : Byte) | eorIndirectY (z : Byte)
  | aslZeropage (z : Byte) | aslZeropageX (z : Byte) | aslAbsolute (w : Word) | aslAbsoluteX (w : Word)
  | aslAccumulator
  | lsrZeropage (z : Byte) | lsrZeropageX (z : Byte) | lsrAbsolute (w : Word) | lsrAbsoluteX (w : Word)
  | lsrAccumulator
  | rolZeropage (z : Byte) | rolZeropageX (z : Byte) | rolAbsolute (w : Word) | rolAbsoluteX (w : Word)
  | rolAccumulator
  | rorZeropage (z : Byte) | rorZeropageX (z : Byte) | rorAbsolute (w : Word) | rorAbsoluteX (w : Word)
  | rorAccumulator
  | cmpImmediate (v : Byte) | cmpZeropage (z : Byte) | cmpZeropageX (z : Byte) | cmpAbsolute (w : Word)
  | cmpAbsoluteX (w : Word) | cmpAbsoluteY (w : Word) | cmpXIndirect (z : Byte) | cmpIndirectY (z : Byte)
  | cpxImmediate (v : Byte) | cpxZeropage (z : Byte) | cpxAbsolute (w : Word)
  | cpyImmediate (v : Byte) | cpyZeropage (z : Byte) | cpyAbsolute (w : Word)
  | bitZeropage (z : Byte) | bitAbsolute (w : Word)
  | bcc (d : Int)
  | bcs (d : Int)
  | beq (d : Int)
  | bne (d : Int)
  | bmi (d : Int)
  | bpl (d : Int)
  | bvc (d : Int)
  | bvs (d : Int)
  | incZeropage (z : Byte) | incZeropageX (z : Byte) | incAbsolute (w : Word) | incAbsoluteX (w : Word)
  | decZeropage (z : Byte) | decZeropageX (z : Byte) | decAbsolute (w : Word) | decAbsoluteX (w : Word)
  | inx
  | iny
  | dex
  | dey
  | ldaImmediate (v : Byte) | ldaZeropage (z : Byte) | ldaZeropageX (z : Byte) | ldaAbsolute (w : Word)
  | ldaAbsoluteX (w : Word) | ldaAbsoluteY (w : Word) | ldaXIndirect (z : Byte) | ldaIndirectY (z : Byte)
  | ldxImmediate (v : Byte) | ldxZeropage (z : Byte) | ldxZeropageY (z : Byte) | ldxAbsolute (w : Word)
  | ldxAbsoluteY (w : Word)
  | ldyImmediate (v : Byte) | ldyZeropage (z : Byte) | ldyZeropageX (z : Byte) | ldyAbsolute (w : Word)
  | ldyAbsoluteX (w : Word)
  | tax
  | tay
  | txa
  | tya
  | tsx
  | txs
  | staZeropage (z : Byte) | staZeropageX (z : Byte) | staAbsolute (w : Word) | staAbsoluteX (w : Word)
  | staAbsoluteY (w : Word) | staXIndirect (z : Byte) | staIndirectY (z : Byte)
  | stxZeropage (z : Byte) | stxZeropageY (z : Byte) | stxAbsolute (w : Word)
  | styZeropage (z : Byte) | styZeropageX (z : Byte) | styAbsolute (w : Word)
  | pha
  | php
  | pla
  | plp
  | jsr (w : Word)
  | rts
  | rti
  | brk
  | jmpAbsolute (w : Word) | jmpIndirect (w : Word)
  | sec
  | clc
  | sei
  | cli
  | sed
  | cld
  | clv
  | nop
  deriving DecidableEq, Repr

/-- R93: the mnemonic, the addressing mode and the operand of an instruction. -/
def Instr.shape : Instr → Mnemonic × Mode × Arg
  | .adcImmediate v => (.adc, .immediate, .byte v)
  | .adcZeropage z => (.adc, .zeropage, .byte z)
  | .adcZeropageX z => (.adc, .zeropageX, .byte z)
  | .adcAbsolute w => (.adc, .absolute, .word w)
  | .adcAbsoluteX w => (.adc, .absoluteX, .word w)
  | .adcAbsoluteY w => (.adc, .absoluteY, .word w)
  | .adcXIndirect z => (.adc, .xIndirect, .byte z)
  | .adcIndirectY z => (.adc, .indirectY, .byte z)
  | .sbcImmediate v => (.sbc, .immediate, .byte v)
  | .sbcZeropage z => (.sbc, .zeropage, .byte z)
  | .sbcZeropageX z => (.sbc, .zeropageX, .byte z)
  | .sbcAbsolute w => (.sbc, .absolute, .word w)
  | .sbcAbsoluteX w => (.sbc, .absoluteX, .word w)
  | .sbcAbsoluteY w => (.sbc, .absoluteY, .word w)
  | .sbcXIndirect z => (.sbc, .xIndirect, .byte z)
  | .sbcIndirectY z => (.sbc, .indirectY, .byte z)
  | .andImmediate v => (.and, .immediate, .byte v)
  | .andZeropage z => (.and, .zeropage, .byte z)
  | .andZeropageX z => (.and, .zeropageX, .byte z)
  | .andAbsolute w => (.and, .absolute, .word w)
  | .andAbsoluteX w => (.and, .absoluteX, .word w)
  | .andAbsoluteY w => (.and, .absoluteY, .word w)
  | .andXIndirect z => (.and, .xIndirect, .byte z)
  | .andIndirectY z => (.and, .indirectY, .byte z)
  | .oraImmediate v => (.ora, .immediate, .byte v)
  | .oraZeropage z => (.ora, .zeropage, .byte z)
  | .oraZeropageX z => (.ora, .zeropageX, .byte z)
  | .oraAbsolute w => (.ora, .absolute, .word w)
  | .oraAbsoluteX w => (.ora, .absoluteX, .word w)
  | .oraAbsoluteY w => (.ora, .absoluteY, .word w)
  | .oraXIndirect z => (.ora, .xIndirect, .byte z)
  | .oraIndirectY z => (.ora, .indirectY, .byte z)
  | .eorImmediate v => (.eor, .immediate, .byte v)
  | .eorZeropage z => (.eor, .zeropage, .byte z)
  | .eorZeropageX z => (.eor, .zeropageX, .byte z)
  | .eorAbsolute w => (.eor, .absolute, .word w)
  | .eorAbsoluteX w => (.eor, .absoluteX, .word w)
  | .eorAbsoluteY w => (.eor, .absoluteY, .word w)
  | .eorXIndirect z => (.eor, .xIndirect, .byte z)
  | .eorIndirectY z => (.eor, .indirectY, .byte z)
  | .aslZeropage z => (.asl, .zeropage, .byte z)
  | .aslZeropageX z => (.asl, .zeropageX, .byte z)
  | .aslAbsolute w => (.asl, .absolute, .word w)
  | .aslAbsoluteX w => (.asl, .absoluteX, .word w)
  | .aslAccumulator => (.asl, .accumulator, .none)
  | .lsrZeropage z => (.lsr, .zeropage, .byte z)
  | .lsrZeropageX z => (.lsr, .zeropageX, .byte z)
  | .lsrAbsolute w => (.lsr, .absolute, .word w)
  | .lsrAbsoluteX w => (.lsr, .absoluteX, .word w)
  | .lsrAccumulator => (.lsr, .accumulator, .none)
  | .rolZeropage z => (.rol, .zeropage, .byte z)
  | .rolZeropageX z => (.rol, .zeropageX, .byte z)
  | .rolAbsolute w => (.rol, .absolute, .word w)
  | .rolAbsoluteX w => (.rol, .absoluteX, .word w)
  | .rolAccumulator => (.rol, .accumulator, .none)
  | .rorZeropage z => (.ror, .zeropage, .byte z)
  | .rorZeropageX z => (.ror, .zeropageX, .byte z)
  | .rorAbsolute w => (.ror, .absolute, .word w)
  | .rorAbsoluteX w => (.ror, .absoluteX, .word w)
  | .rorAccumulator => (.ror, .accumulator, .none)
  | .cmpImmediate v => (.cmp, .immediate, .byte v)
  | .cmpZeropage z => (.cmp, .zeropage, .byte z)
  | .cmpZeropageX z => (.cmp, .zeropageX, .byte z)
  | .cmpAbsolute w => (.cmp, .absolute, .word w)
  | .cmpAbsoluteX w => (.cmp, .absoluteX, .word w)
  | .cmpAbsoluteY w => (.cmp, .absoluteY, .word w)
  | .cmpXIndirect z => (.cmp, .xIndirect, .byte z)
  | .cmpIndirectY z => (.cmp, .indirectY, .byte z)
  | .cpxImmediate v => (.cpx, .immediate, .byte v)
  | .cpxZeropage z => (.cpx, .zeropage, .byte z)
  | .cpxAbsolute w => (.cpx, .absolute, .word w)
  | .cpyImmediate v => (.cpy, .immediate, .byte v)
  | .cpyZeropage z => (.cpy, .zeropage, .byte z)
  | .cpyAbsolute w => (.cpy, .absolute, .word w)
  | .bitZeropage z => (.bit, .zeropage, .byte z)
  | .bitAbsolute w => (.bit, .absolute, .word w)
  | .bcc d => (.bcc, .relative, .rel d)
  | .bcs d => (.bcs, .relative, .rel d)
  | .beq d => (.beq, .relative, .rel d)
  | .bne d => (.bne, .relative, .rel d)
  | .bmi d => (.bmi, .relative, .rel d)
  | .bpl d => (.bpl, .relative, .rel d)
  | .bvc d => (.bvc, .relative, .rel d)
  | .bvs d => (.bvs, .relative, .rel d)
  | .incZeropage z => (.inc, .zeropage, .byte z)
  | .incZeropageX z => (.inc, .zeropageX, .byte z)
  | .incAbsolute w => (.inc, .absolute, .word w)
  | .incAbsoluteX w => (.inc, .absoluteX, .word w)
  | .decZeropage z => (.dec, .zeropage, .byte z)
  | .decZeropageX z => (.dec, .zeropageX, .byte z)
  | .decAbsolute w => (.dec, .absolute, .word w)
  | .decAbsoluteX w => (.dec, .absoluteX, .word w)
  | .inx => (.inx, .implied, .none)
  | .iny => (.iny, .implied, .none)
  | .dex => (.dex, .implied, .none)
  | .dey => (.dey, .implied, .none)
  | .ldaImmediate v => (.lda, .immediate, .byte v)
  | .ldaZeropage z => (.lda, .zeropage, .byte z)
  | .ldaZeropageX z => (.lda, .zeropageX, .byte z)
  | .ldaAbsolute w => (.lda, .absolute, .word w)
  | .ldaAbsoluteX w => (.lda, .absoluteX, .word w)
  | .ldaAbsoluteY w => (.lda, .absoluteY, .word w)
  | .ldaXIndirect z => (.lda, .xIndirect, .byte z)
  | .ldaIndirectY z => (.lda, .indirectY, .byte z)
  | .ldxImmediate v => (.ldx, .immediate, .byte v)
  | .ldxZeropage z => (.ldx, .zeropage, .byte z)
  | .ldxZeropageY z => (.ldx, .zeropageY, .byte z)
  | .ldxAbsolute w => (.ldx, .absolute, .word w)
  | .ldxAbsoluteY w => (.ldx, .absoluteY, .word w)
  | .ldyImmediate v => (.ldy, .immediate, .byte v)
  | .ldyZeropage z => (.ldy, .zeropage, .byte z)
  | .ldyZeropageX z => (.ldy, .zeropageX, .byte z)
  | .ldyAbsolute w => (.ldy, .absolute, .word w)
  | .ldyAbsoluteX w => (.ldy, .absoluteX, .word w)
  | .tax => (.tax, .implied, .none)
  | .tay => (.tay, .implied, .none)
  | .txa => (.txa, .implied, .none)
  | .tya => (.tya, .implied, .none)
  | .tsx => (.tsx, .implied, .none)
  | .txs => (.txs, .implied, .none)
  | .staZeropage z => (.sta, .zeropage, .byte z)
  | .staZeropageX z => (.sta, .zeropageX, .byte z)
  | .staAbsolute w => (.sta, .absolute, .word w)
  | .staAbsoluteX w => (.sta, .absoluteX, .word w)
  | .staAbsoluteY w => (.sta, .absoluteY, .word w)
  | .staXIndirect z => (.sta, .xIndirect, .byte z)
  | .staIndirectY z => (.sta, .indirectY, .byte z)
  | .stxZeropage z => (.stx, .zeropage, .byte z)
  | .stxZeropageY z => (.stx, .zeropageY, .byte z)
  | .stxAbsolute w => (.stx, .absolute, .word w)
  | .styZeropage z => (.sty, .zeropage, .byte z)
  | .styZeropageX z => (.sty, .zeropageX, .byte z)
  | .styAbsolute w => (.sty, .absolute, .word w)
  | .pha => (.pha, .implied, .none)
  | .php => (.php, .implied, .none)
  | .pla => (.pla, .implied, .none)
  | .plp => (.plp, .implied, .none)
  | .jsr w => (.jsr, .absolute, .word w)
  | .rts => (.rts, .implied, .none)
  | .rti => (.rti, .implied, .none)
  | .brk => (.brk, .implied, .none)
  | .jmpAbsolute w => (.jmp, .absolute, .word w)
  | .jmpIndirect w => (.jmp, .indirect, .word w)
  | .sec => (.sec, .implied, .none)
  | .clc => (.clc, .implied, .none)
  | .sei => (.sei, .implied, .none)
  | .cli => (.cli, .implied, .none)
  | .sed => (.sed, .implied, .none)
  | .cld => (.cld, .implied, .none)
  | .clv => (.clv, .implied, .none)
  | .nop => (.nop, .implied, .none)

/-- The mnemonic of an instruction. -/
def Instr.mnemonic (i : Instr) : Mnemonic := i.shape.1

/-- The addressing mode of an instruction. -/
def Instr.mode (i : Instr) : Mode := i.shape.2.1

/-- The operand of an instruction. -/
def Instr.arg (i : Instr) : Arg := i.shape.2.2

end Sys2Proof
end

