-- ==== Sys2Proof/WellFormed.lean ====
section
/-! DEFINITION. WellFormed.lean: which terms of `Instr` are instructions of the machine.

Every operand byte of a valid opcode is legal (R96), and an operand's type already has the width its encoding has, so the
one check is the range of a branch displacement. -/

namespace Sys2Proof

/-- R92, R113: a displacement is an integer in -128..+127; R96: every other operand is legal. -/
def Arg.wellFormed : Arg → Bool
  | .none => true
  | .byte _ => true
  | .word _ => true
  | .rel d => decide (-128 ≤ d) && decide (d ≤ 127)

/-- A well-formed instruction: one that some byte sequence encodes. -/
def Instr.wellFormed (i : Instr) : Bool := i.arg.wellFormed

end Sys2Proof
end

