-- ==== Sys2Proof/Decode.lean ====
section
/-! DEFINITION. Decode.lean: the instruction table (R93), the decoder and the encoder. -/

namespace Sys2Proof

/-- R90: the number of bytes of an instruction of a mode. -/
def modeLength : Mode → Nat
  | .implied => 1
  | .accumulator => 1
  | .immediate => 2
  | .zeropage => 2
  | .zeropageX => 2
  | .zeropageY => 2
  | .xIndirect => 2
  | .indirectY => 2
  | .relative => 2
  | .absolute => 3
  | .absoluteX => 3
  | .absoluteY => 3
  | .indirect => 3

/-- R90, R91: the length of an instruction. -/
def instrLength (i : Instr) : Nat := modeLength i.mode

/-- R90, R92: what a table row does with the bytes after the opcode. -/
inductive Template where
  /-- Format F1: no operand. -/
  | none (i : Instr)
  /-- Format F2: a datum or a zero-page address. -/
  | byte (make : Byte → Instr)
  /-- Format F3: a little-endian 16-bit address. -/
  | word (make : Word → Instr)
  /-- Format F2, relative: a sign-extended displacement. -/
  | rel (make : Int → Instr)

/-- A row of the instruction table. -/
structure Row where
  /-- The opcode byte. -/
  opcode : Byte
  /-- The instruction it names and the operand bytes it takes. -/
  template : Template

/-- R93: the opcodes 0x00 to 0x0F. -/
def tableRow0 : List Row := [
  ⟨0x00#8, .none .brk⟩, ⟨0x01#8, .byte .oraXIndirect⟩, ⟨0x05#8, .byte .oraZeropage⟩, ⟨0x06#8, .byte .aslZeropage⟩,
  ⟨0x08#8, .none .php⟩, ⟨0x09#8, .byte .oraImmediate⟩, ⟨0x0A#8, .none .aslAccumulator⟩, ⟨0x0D#8, .word .oraAbsolute⟩,
  ⟨0x0E#8, .word .aslAbsolute⟩ ]

/-- R93: the opcodes 0x10 to 0x1F. -/
def tableRow1 : List Row := [
  ⟨0x10#8, .rel .bpl⟩, ⟨0x11#8, .byte .oraIndirectY⟩, ⟨0x15#8, .byte .oraZeropageX⟩, ⟨0x16#8, .byte .aslZeropageX⟩,
  ⟨0x18#8, .none .clc⟩, ⟨0x19#8, .word .oraAbsoluteY⟩, ⟨0x1D#8, .word .oraAbsoluteX⟩, ⟨0x1E#8, .word .aslAbsoluteX⟩ ]

/-- R93: the opcodes 0x20 to 0x2F. -/
def tableRow2 : List Row := [
  ⟨0x20#8, .word .jsr⟩, ⟨0x21#8, .byte .andXIndirect⟩, ⟨0x24#8, .byte .bitZeropage⟩, ⟨0x25#8, .byte .andZeropage⟩,
  ⟨0x26#8, .byte .rolZeropage⟩, ⟨0x28#8, .none .plp⟩, ⟨0x29#8, .byte .andImmediate⟩, ⟨0x2A#8, .none .rolAccumulator⟩,
  ⟨0x2C#8, .word .bitAbsolute⟩, ⟨0x2D#8, .word .andAbsolute⟩, ⟨0x2E#8, .word .rolAbsolute⟩ ]

/-- R93: the opcodes 0x30 to 0x3F. -/
def tableRow3 : List Row := [
  ⟨0x30#8, .rel .bmi⟩, ⟨0x31#8, .byte .andIndirectY⟩, ⟨0x35#8, .byte .andZeropageX⟩, ⟨0x36#8, .byte .rolZeropageX⟩,
  ⟨0x38#8, .none .sec⟩, ⟨0x39#8, .word .andAbsoluteY⟩, ⟨0x3D#8, .word .andAbsoluteX⟩, ⟨0x3E#8, .word .rolAbsoluteX⟩ ]

/-- R93: the opcodes 0x40 to 0x4F. -/
def tableRow4 : List Row := [
  ⟨0x40#8, .none .rti⟩, ⟨0x41#8, .byte .eorXIndirect⟩, ⟨0x45#8, .byte .eorZeropage⟩, ⟨0x46#8, .byte .lsrZeropage⟩,
  ⟨0x48#8, .none .pha⟩, ⟨0x49#8, .byte .eorImmediate⟩, ⟨0x4A#8, .none .lsrAccumulator⟩, ⟨0x4C#8, .word .jmpAbsolute⟩,
  ⟨0x4D#8, .word .eorAbsolute⟩, ⟨0x4E#8, .word .lsrAbsolute⟩ ]

/-- R93: the opcodes 0x50 to 0x5F. -/
def tableRow5 : List Row := [
  ⟨0x50#8, .rel .bvc⟩, ⟨0x51#8, .byte .eorIndirectY⟩, ⟨0x55#8, .byte .eorZeropageX⟩, ⟨0x56#8, .byte .lsrZeropageX⟩,
  ⟨0x58#8, .none .cli⟩, ⟨0x59#8, .word .eorAbsoluteY⟩, ⟨0x5D#8, .word .eorAbsoluteX⟩, ⟨0x5E#8, .word .lsrAbsoluteX⟩ ]

/-- R93: the opcodes 0x60 to 0x6F. -/
def tableRow6 : List Row := [
  ⟨0x60#8, .none .rts⟩, ⟨0x61#8, .byte .adcXIndirect⟩, ⟨0x65#8, .byte .adcZeropage⟩, ⟨0x66#8, .byte .rorZeropage⟩,
  ⟨0x68#8, .none .pla⟩, ⟨0x69#8, .byte .adcImmediate⟩, ⟨0x6A#8, .none .rorAccumulator⟩, ⟨0x6C#8, .word .jmpIndirect⟩,
  ⟨0x6D#8, .word .adcAbsolute⟩, ⟨0x6E#8, .word .rorAbsolute⟩ ]

/-- R93: the opcodes 0x70 to 0x7F. -/
def tableRow7 : List Row := [
  ⟨0x70#8, .rel .bvs⟩, ⟨0x71#8, .byte .adcIndirectY⟩, ⟨0x75#8, .byte .adcZeropageX⟩, ⟨0x76#8, .byte .rorZeropageX⟩,
  ⟨0x78#8, .none .sei⟩, ⟨0x79#8, .word .adcAbsoluteY⟩, ⟨0x7D#8, .word .adcAbsoluteX⟩, ⟨0x7E#8, .word .rorAbsoluteX⟩ ]

/-- R93: the opcodes 0x80 to 0x8F. -/
def tableRow8 : List Row := [
  ⟨0x81#8, .byte .staXIndirect⟩, ⟨0x84#8, .byte .styZeropage⟩, ⟨0x85#8, .byte .staZeropage⟩, ⟨0x86#8, .byte .stxZeropage⟩,
  ⟨0x88#8, .none .dey⟩, ⟨0x8A#8, .none .txa⟩, ⟨0x8C#8, .word .styAbsolute⟩, ⟨0x8D#8, .word .staAbsolute⟩,
  ⟨0x8E#8, .word .stxAbsolute⟩ ]

/-- R93: the opcodes 0x90 to 0x9F. -/
def tableRow9 : List Row := [
  ⟨0x90#8, .rel .bcc⟩, ⟨0x91#8, .byte .staIndirectY⟩, ⟨0x94#8, .byte .styZeropageX⟩, ⟨0x95#8, .byte .staZeropageX⟩,
  ⟨0x96#8, .byte .stxZeropageY⟩, ⟨0x98#8, .none .tya⟩, ⟨0x99#8, .word .staAbsoluteY⟩, ⟨0x9A#8, .none .txs⟩,
  ⟨0x9D#8, .word .staAbsoluteX⟩ ]

/-- R93: the opcodes 0xA0 to 0xAF. -/
def tableRowA : List Row := [
  ⟨0xA0#8, .byte .ldyImmediate⟩, ⟨0xA1#8, .byte .ldaXIndirect⟩, ⟨0xA2#8, .byte .ldxImmediate⟩, ⟨0xA4#8, .byte .ldyZeropage⟩,
  ⟨0xA5#8, .byte .ldaZeropage⟩, ⟨0xA6#8, .byte .ldxZeropage⟩, ⟨0xA8#8, .none .tay⟩, ⟨0xA9#8, .byte .ldaImmediate⟩,
  ⟨0xAA#8, .none .tax⟩, ⟨0xAC#8, .word .ldyAbsolute⟩, ⟨0xAD#8, .word .ldaAbsolute⟩, ⟨0xAE#8, .word .ldxAbsolute⟩ ]

/-- R93: the opcodes 0xB0 to 0xBF. -/
def tableRowB : List Row := [
  ⟨0xB0#8, .rel .bcs⟩, ⟨0xB1#8, .byte .ldaIndirectY⟩, ⟨0xB4#8, .byte .ldyZeropageX⟩, ⟨0xB5#8, .byte .ldaZeropageX⟩,
  ⟨0xB6#8, .byte .ldxZeropageY⟩, ⟨0xB8#8, .none .clv⟩, ⟨0xB9#8, .word .ldaAbsoluteY⟩, ⟨0xBA#8, .none .tsx⟩,
  ⟨0xBC#8, .word .ldyAbsoluteX⟩, ⟨0xBD#8, .word .ldaAbsoluteX⟩, ⟨0xBE#8, .word .ldxAbsoluteY⟩ ]

/-- R93: the opcodes 0xC0 to 0xCF. -/
def tableRowC : List Row := [
  ⟨0xC0#8, .byte .cpyImmediate⟩, ⟨0xC1#8, .byte .cmpXIndirect⟩, ⟨0xC4#8, .byte .cpyZeropage⟩, ⟨0xC5#8, .byte .cmpZeropage⟩,
  ⟨0xC6#8, .byte .decZeropage⟩, ⟨0xC8#8, .none .iny⟩, ⟨0xC9#8, .byte .cmpImmediate⟩, ⟨0xCA#8, .none .dex⟩,
  ⟨0xCC#8, .word .cpyAbsolute⟩, ⟨0xCD#8, .word .cmpAbsolute⟩, ⟨0xCE#8, .word .decAbsolute⟩ ]

/-- R93: the opcodes 0xD0 to 0xDF. -/
def tableRowD : List Row := [
  ⟨0xD0#8, .rel .bne⟩, ⟨0xD1#8, .byte .cmpIndirectY⟩, ⟨0xD5#8, .byte .cmpZeropageX⟩, ⟨0xD6#8, .byte .decZeropageX⟩,
  ⟨0xD8#8, .none .cld⟩, ⟨0xD9#8, .word .cmpAbsoluteY⟩, ⟨0xDD#8, .word .cmpAbsoluteX⟩, ⟨0xDE#8, .word .decAbsoluteX⟩ ]

/-- R93: the opcodes 0xE0 to 0xEF. -/
def tableRowE : List Row := [
  ⟨0xE0#8, .byte .cpxImmediate⟩, ⟨0xE1#8, .byte .sbcXIndirect⟩, ⟨0xE4#8, .byte .cpxZeropage⟩, ⟨0xE5#8, .byte .sbcZeropage⟩,
  ⟨0xE6#8, .byte .incZeropage⟩, ⟨0xE8#8, .none .inx⟩, ⟨0xE9#8, .byte .sbcImmediate⟩, ⟨0xEA#8, .none .nop⟩,
  ⟨0xEC#8, .word .cpxAbsolute⟩, ⟨0xED#8, .word .sbcAbsolute⟩, ⟨0xEE#8, .word .incAbsolute⟩ ]

/-- R93: the opcodes 0xF0 to 0xFF. -/
def tableRowF : List Row := [
  ⟨0xF0#8, .rel .beq⟩, ⟨0xF1#8, .byte .sbcIndirectY⟩, ⟨0xF5#8, .byte .sbcZeropageX⟩, ⟨0xF6#8, .byte .incZeropageX⟩,
  ⟨0xF8#8, .none .sed⟩, ⟨0xF9#8, .word .sbcAbsoluteY⟩, ⟨0xFD#8, .word .sbcAbsoluteX⟩, ⟨0xFE#8, .word .incAbsoluteX⟩ ]

/-- R93: the instruction table, 151 rows. -/
def table : List Row :=
  tableRow0 ++ tableRow1 ++ tableRow2 ++ tableRow3 ++ tableRow4 ++ tableRow5 ++ tableRow6 ++ tableRow7 ++
    tableRow8 ++ tableRow9 ++ tableRowA ++ tableRowB ++ tableRowC ++ tableRowD ++ tableRowE ++ tableRowF

/-- R93: the part of the table for a high nibble. -/
def tableRowOf (nibble : Nat) : List Row :=
  match nibble with
  | 0 => tableRow0
  | 1 => tableRow1
  | 2 => tableRow2
  | 3 => tableRow3
  | 4 => tableRow4
  | 5 => tableRow5
  | 6 => tableRow6
  | 7 => tableRow7
  | 8 => tableRow8
  | 9 => tableRow9
  | 10 => tableRowA
  | 11 => tableRowB
  | 12 => tableRowC
  | 13 => tableRowD
  | 14 => tableRowE
  | 15 => tableRowF
  | _ => []

/-- The row of an opcode byte in a list of rows. -/
def findRow : List Row → Byte → Option Row
  | [], _ => none
  | r :: rs, op => if r.opcode = op then some r else findRow rs op

/-- R112: the row of an opcode byte, if the table has one. -/
def lookup (op : Byte) : Option Row := findRow (tableRowOf (op.toNat / 16)) op

/-- R92: the operand assembled from the bytes that follow the opcode; none where there are too few. -/
def fill : Template → List Byte → Option (Instr × List Byte)
  | .none i, bs => some (i, bs)
  | .byte make, b :: bs => some (make b, bs)
  | .word make, lo :: hi :: bs => some (make (wordOf lo hi), bs)
  | .rel make, b :: bs => some (make (displacementOf b), bs)
  | _, _ => none

/-- Why bytes are no instruction. -/
inductive DecodeError where
  /-- There is no byte to decode. -/
  | noBytes
  /-- R95, R97: the opcode byte has no table entry. -/
  | invalidOpcode (opcode : Byte)
  /-- The table takes more operand bytes than the list has (never in a step, which fetches three bytes). -/
  | truncated (opcode : Byte)
  deriving DecidableEq, Repr

/-- R91, R112: the instruction at the front of a list of bytes, and the bytes after it. -/
def decode : List Byte → Except DecodeError (Instr × List Byte)
  | [] => .error .noBytes
  | op :: rest =>
    match lookup op with
    | none => .error (.invalidOpcode op)
    | some r =>
      match fill r.template rest with
      | none => .error (.truncated op)
      | some out => .ok out

/-- The host's reading of a table word: its bytes, the first in bits 7..0, are decoded; bits from `nbits` up are 0. -/
def decodeTableWord (nbits w : Nat) : Option Instr :=
  let v := w % 2 ^ nbits
  match decode [BitVec.ofNat 8 v, BitVec.ofNat 8 (v / 0x100), BitVec.ofNat 8 (v / 0x10000)] with
  | .ok (i, _) => some i
  | .error _ => none

/-- R93: the opcode byte of an instruction. -/
def opcodeOf : Instr → Byte
  | .adcImmediate _ => 0x69#8
  | .adcZeropage _ => 0x65#8
  | .adcZeropageX _ => 0x75#8
  | .adcAbsolute _ => 0x6D#8
  | .adcAbsoluteX _ => 0x7D#8
  | .adcAbsoluteY _ => 0x79#8
  | .adcXIndirect _ => 0x61#8
  | .adcIndirectY _ => 0x71#8
  | .sbcImmediate _ => 0xE9#8
  | .sbcZeropage _ => 0xE5#8
  | .sbcZeropageX _ => 0xF5#8
  | .sbcAbsolute _ => 0xED#8
  | .sbcAbsoluteX _ => 0xFD#8
  | .sbcAbsoluteY _ => 0xF9#8
  | .sbcXIndirect _ => 0xE1#8
  | .sbcIndirectY _ => 0xF1#8
  | .andImmediate _ => 0x29#8
  | .andZeropage _ => 0x25#8
  | .andZeropageX _ => 0x35#8
  | .andAbsolute _ => 0x2D#8
  | .andAbsoluteX _ => 0x3D#8
  | .andAbsoluteY _ => 0x39#8
  | .andXIndirect _ => 0x21#8
  | .andIndirectY _ => 0x31#8
  | .oraImmediate _ => 0x09#8
  | .oraZeropage _ => 0x05#8
  | .oraZeropageX _ => 0x15#8
  | .oraAbsolute _ => 0x0D#8
  | .oraAbsoluteX _ => 0x1D#8
  | .oraAbsoluteY _ => 0x19#8
  | .oraXIndirect _ => 0x01#8
  | .oraIndirectY _ => 0x11#8
  | .eorImmediate _ => 0x49#8
  | .eorZeropage _ => 0x45#8
  | .eorZeropageX _ => 0x55#8
  | .eorAbsolute _ => 0x4D#8
  | .eorAbsoluteX _ => 0x5D#8
  | .eorAbsoluteY _ => 0x59#8
  | .eorXIndirect _ => 0x41#8
  | .eorIndirectY _ => 0x51#8
  | .aslZeropage _ => 0x06#8
  | .aslZeropageX _ => 0x16#8
  | .aslAbsolute _ => 0x0E#8
  | .aslAbsoluteX _ => 0x1E#8
  | .aslAccumulator => 0x0A#8
  | .lsrZeropage _ => 0x46#8
  | .lsrZeropageX _ => 0x56#8
  | .lsrAbsolute _ => 0x4E#8
  | .lsrAbsoluteX _ => 0x5E#8
  | .lsrAccumulator => 0x4A#8
  | .rolZeropage _ => 0x26#8
  | .rolZeropageX _ => 0x36#8
  | .rolAbsolute _ => 0x2E#8
  | .rolAbsoluteX _ => 0x3E#8
  | .rolAccumulator => 0x2A#8
  | .rorZeropage _ => 0x66#8
  | .rorZeropageX _ => 0x76#8
  | .rorAbsolute _ => 0x6E#8
  | .rorAbsoluteX _ => 0x7E#8
  | .rorAccumulator => 0x6A#8
  | .cmpImmediate _ => 0xC9#8
  | .cmpZeropage _ => 0xC5#8
  | .cmpZeropageX _ => 0xD5#8
  | .cmpAbsolute _ => 0xCD#8
  | .cmpAbsoluteX _ => 0xDD#8
  | .cmpAbsoluteY _ => 0xD9#8
  | .cmpXIndirect _ => 0xC1#8
  | .cmpIndirectY _ => 0xD1#8
  | .cpxImmediate _ => 0xE0#8
  | .cpxZeropage _ => 0xE4#8
  | .cpxAbsolute _ => 0xEC#8
  | .cpyImmediate _ => 0xC0#8
  | .cpyZeropage _ => 0xC4#8
  | .cpyAbsolute _ => 0xCC#8
  | .bitZeropage _ => 0x24#8
  | .bitAbsolute _ => 0x2C#8
  | .bcc _ => 0x90#8
  | .bcs _ => 0xB0#8
  | .beq _ => 0xF0#8
  | .bne _ => 0xD0#8
  | .bmi _ => 0x30#8
  | .bpl _ => 0x10#8
  | .bvc _ => 0x50#8
  | .bvs _ => 0x70#8
  | .incZeropage _ => 0xE6#8
  | .incZeropageX _ => 0xF6#8
  | .incAbsolute _ => 0xEE#8
  | .incAbsoluteX _ => 0xFE#8
  | .decZeropage _ => 0xC6#8
  | .decZeropageX _ => 0xD6#8
  | .decAbsolute _ => 0xCE#8
  | .decAbsoluteX _ => 0xDE#8
  | .inx => 0xE8#8
  | .iny => 0xC8#8
  | .dex => 0xCA#8
  | .dey => 0x88#8
  | .ldaImmediate _ => 0xA9#8
  | .ldaZeropage _ => 0xA5#8
  | .ldaZeropageX _ => 0xB5#8
  | .ldaAbsolute _ => 0xAD#8
  | .ldaAbsoluteX _ => 0xBD#8
  | .ldaAbsoluteY _ => 0xB9#8
  | .ldaXIndirect _ => 0xA1#8
  | .ldaIndirectY _ => 0xB1#8
  | .ldxImmediate _ => 0xA2#8
  | .ldxZeropage _ => 0xA6#8
  | .ldxZeropageY _ => 0xB6#8
  | .ldxAbsolute _ => 0xAE#8
  | .ldxAbsoluteY _ => 0xBE#8
  | .ldyImmediate _ => 0xA0#8
  | .ldyZeropage _ => 0xA4#8
  | .ldyZeropageX _ => 0xB4#8
  | .ldyAbsolute _ => 0xAC#8
  | .ldyAbsoluteX _ => 0xBC#8
  | .tax => 0xAA#8
  | .tay => 0xA8#8
  | .txa => 0x8A#8
  | .tya => 0x98#8
  | .tsx => 0xBA#8
  | .txs => 0x9A#8
  | .staZeropage _ => 0x85#8
  | .staZeropageX _ => 0x95#8
  | .staAbsolute _ => 0x8D#8
  | .staAbsoluteX _ => 0x9D#8
  | .staAbsoluteY _ => 0x99#8
  | .staXIndirect _ => 0x81#8
  | .staIndirectY _ => 0x91#8
  | .stxZeropage _ => 0x86#8
  | .stxZeropageY _ => 0x96#8
  | .stxAbsolute _ => 0x8E#8
  | .styZeropage _ => 0x84#8
  | .styZeropageX _ => 0x94#8
  | .styAbsolute _ => 0x8C#8
  | .pha => 0x48#8
  | .php => 0x08#8
  | .pla => 0x68#8
  | .plp => 0x28#8
  | .jsr _ => 0x20#8
  | .rts => 0x60#8
  | .rti => 0x40#8
  | .brk => 0x00#8
  | .jmpAbsolute _ => 0x4C#8
  | .jmpIndirect _ => 0x6C#8
  | .sec => 0x38#8
  | .clc => 0x18#8
  | .sei => 0x78#8
  | .cli => 0x58#8
  | .sed => 0xF8#8
  | .cld => 0xD8#8
  | .clv => 0xB8#8
  | .nop => 0xEA#8

/-- R92: the bytes an operand is encoded in, a word little-endian. -/
def argBytes : Arg → List Byte
  | .none => []
  | .byte b => [b]
  | .word w => [lowByte w, highByte w]
  | .rel d => [displacementByte d]

/-- R90: the bytes of an instruction, in stream order. -/
def encode (i : Instr) : List Byte := opcodeOf i :: argBytes i.arg

end Sys2Proof
end

