-- ==== Sys2Proof/Config.lean ====
section
/-! DEFINITION. Config.lean: the parameter the spec leaves OPEN (R14). -/

namespace Sys2Proof

/-- R14: the open parameters of the core that are fixed for one machine.
The other open parameter, `prgImage`, is the argument of `Machine.load`. -/
structure Config where
  /-- R121, D6: `JMP_IND_PAGE_WRAP`. With `true` an indirect JMP reads its high byte inside the pointer's page. -/
  jmpIndPageWrap : Bool
  deriving DecidableEq, Repr

/-- R14: the default, `JMP_IND_PAGE_WRAP = false`. -/
def Config.standard : Config := { jmpIndPageWrap := false }

end Sys2Proof
end

