-- ==== Sys2Proof/Machine/Memory.lean ====
section
/-! DEFINITION. Machine/Memory.lean: the flat 64 KiB byte memory (R40, R60) as a canonical list of cells. -/

namespace Sys2Proof.Machine

open Sys2Proof

/-- R40, R60: the 65,536 bytes, as the list of the cells that differ from what an unlisted address reads as,
in strictly rising order of address. -/
abbrev Memory := List Host.Cell

/-- R40, R67: what an address with no cell reads as; the array is "zero-initialized". -/
def unlistedByte : Byte := 0x00#8

/-- The canonical form above address `lo`: addresses strictly rising, in range, no cell equal to `unlistedByte`. -/
def Memory.wfFrom : Nat → Memory → Bool
  | _, [] => true
  | lo, (k, v) :: m =>
    decide (lo ≤ k) && decide (k < 65536) && decide (v ≠ unlistedByte) && Memory.wfFrom (k + 1) m

/-- The canonical form of memory. -/
def Memory.wf (m : Memory) : Bool := Memory.wfFrom 0 m

/-- The byte of the cell with key `k`. -/
def Memory.find : Memory → Nat → Byte
  | [], _ => unlistedByte
  | (j, v) :: m, k => if j = k then v else Memory.find m k

/-- The memory without the cell of key `k`. -/
def Memory.remove : Memory → Nat → Memory
  | [], _ => []
  | (j, v) :: m, k => if j = k then Memory.remove m k else (j, v) :: Memory.remove m k

/-- The memory with a cell put before the first greater key. -/
def Memory.insert : Memory → Nat → Byte → Memory
  | [], k, v => [(k, v)]
  | (j, w) :: m, k, v => if k < j then (k, v) :: (j, w) :: m else (j, w) :: Memory.insert m k v

/-- R17 `MemRead(a, 1)`, R70: the byte at an address; reading changes nothing. -/
def Memory.read (m : Memory) (a : Word) : Byte := Memory.find m a.toNat

/-- R17 `MemWrite(a, 1, v)`, R69, R70: exactly the byte at `a` becomes `v`; every address is writable. -/
def Memory.write (m : Memory) (a : Word) (v : Byte) : Memory :=
  if v = unlistedByte then Memory.remove m a.toNat else Memory.insert (Memory.remove m a.toNat) a.toNat v

/-- R17 `Read16`, R64: a little-endian word, the high byte at `mod16(a + 1)`. -/
def Memory.read16 (m : Memory) (a : Word) : Word := wordOf (Memory.read m a) (Memory.read m (a + 1#16))

/-- R17 `ZpRead16`, R61, R64: a little-endian word of the zero page, the high byte at `(z + 1) & 0xFF`. -/
def Memory.zpRead16 (m : Memory) (z : Byte) : Word :=
  wordOf (Memory.read m (z.setWidth 16)) (Memory.read m ((z + 1#8).setWidth 16))

/-- The canonical cells of a run of bytes from address `k` up. -/
def cellsFrom : Nat → List Byte → Memory
  | _, [] => []
  | k, b :: bs => if b = unlistedByte then cellsFrom (k + 1) bs else (k, b) :: cellsFrom (k + 1) bs

end Sys2Proof.Machine
end

