-- ==== Sys2Proof/Machine/State.lean ====
section
/-! DEFINITION. Machine/State.lean: everything the spec gives the machine (R46), as plain data. -/

namespace Sys2Proof.Machine

open Sys2Proof

/-- R36: the seven named booleans of the status register; bit 5 is not state. -/
structure Flags where
  /-- N, negative (bit 7 of P). -/
  n : Bool
  /-- V, overflow (bit 6). -/
  v : Bool
  /-- B, break (bit 4), stored but unobservable (R39). -/
  b : Bool
  /-- D, decimal (bit 3), stored but ignored by arithmetic (R38). -/
  d : Bool
  /-- I, interrupt disable (bit 2), masks nothing (R240). -/
  i : Bool
  /-- Z, zero (bit 1). -/
  z : Bool
  /-- C, carry (bit 0). -/
  c : Bool
  deriving DecidableEq, Repr

/-- R41: the two states of the execution engine. -/
inductive Run where
  | running
  | halted
  deriving DecidableEq, Repr

/-- R42, R230: the errors that halt the engine, with what the halt records. -/
inductive EngineError where
  /-- R231: the byte fetched at `addr` has no instruction-table entry. -/
  | invalidOpcode (opcode : Byte) (addr : Word)
  /-- R232: never raised; it stays in the error type so that the interface matches the source's. -/
  | addressOutOfRange (addr : Word)
  deriving DecidableEq, Repr

/-- R46: the state of the machine. `cfg` alone is the model's own: the open parameter of R14, which nothing writes. -/
structure State where
  /-- R30: the accumulator A. -/
  a : Byte
  /-- R30: the index register X. -/
  x : Byte
  /-- R30: the index register Y. -/
  y : Byte
  /-- R34: the stack pointer, an index into page 0x01. -/
  sp : Byte
  /-- R35: the program counter. -/
  pc : Word
  /-- R36: the status flags. -/
  flags : Flags
  /-- R40: memory. -/
  mem : Memory
  /-- R41: Running or Halted. -/
  run : Run
  /-- R42: the error record. -/
  err : Option EngineError
  /-- R43: the cycle counter, without upper bound. -/
  cycles : Nat
  /-- R14: the open parameter (the model's own field; DESIGN CHOICE, log entry 1). -/
  cfg : Config
  deriving DecidableEq, Repr

/-- Why a step can stop with a fault: no step of this core does (an invalid opcode is a NEXT state with the engine
Halted, R231; DESIGN CHOICE, log entry 3). -/
inductive Fault where
  /-- R232, R77: an access outside the 64 KiB array. Raised by nobody, since no access of this core can be out of range.
  Safe: it stands so that the type names the one stop the source's error list has and the machine never makes. -/
  | addressOutOfRange (addr : Nat)
  deriving DecidableEq, Repr

/-- Why a step can be refused: no step of this core is. -/
inductive Refusal where
  /-- Raised by an arm of `exec` whose instruction has no meaning yet; no arm is left so. Safe: the machine stops. -/
  | notModelled (mnemonic : String)
  deriving DecidableEq, Repr

/-- The answer of a meaning. -/
abbrev Result := Host.Outcome State Fault Refusal

/-- R46, R260, R263: the machine right after reset, on a memory that lists nothing (DESIGN CHOICE, log entry 2: no image
is loaded). PC is `Read16(0xFFFC)` of that memory. -/
def State.reset : State :=
  { a := 0x00#8
    x := 0x00#8
    y := 0x00#8
    sp := 0xFD#8
    pc := Memory.read16 [] 0xFFFC#16
    flags := { n := false, v := false, b := false, d := false, i := true, z := false, c := false }
    mem := []
    run := .running
    err := none
    cycles := 0
    cfg := Config.standard }

end Sys2Proof.Machine
end

