-- ==== Sys2Proof/Machine/Flags.lean ====
section
/-! DEFINITION. Machine/Flags.lean: the serialised status byte and every flag computation of the spec. -/

namespace Sys2Proof.Machine

open Sys2Proof

/-- R15: a flag as a bit of a byte. -/
def flagBit (f : Bool) (k : Nat) : Byte := if f then 1#8 <<< k else 0#8

/-- R36: the serialised status byte P; bit 5 reads as 1. -/
def Flags.toByte (f : Flags) : Byte :=
  flagBit f.n 7 ||| flagBit f.v 6 ||| flagBit true 5 ||| flagBit f.b 4 |||
    flagBit f.d 3 ||| flagBit f.i 2 ||| flagBit f.z 1 ||| flagBit f.c 0

/-- R201, R207: the status byte as PHP and BRK push it, `P | 0x30`: bits 5 and 4 set whatever B holds. -/
def Flags.pushed (f : Flags) : Byte := f.toByte ||| 0x30#8

/-- R37: the flags loaded from a byte by PLP and RTI; bit 5 is ignored. -/
def Flags.ofByte (v : Byte) : Flags :=
  { n := v.getLsbD 7, v := v.getLsbD 6, b := v.getLsbD 4, d := v.getLsbD 3, i := v.getLsbD 2, z := v.getLsbD 1,
    c := v.getLsbD 0 }

/-- R17 `SetNZ(r)`: N is bit 7 of `r`, Z whether `r` is zero. -/
def Flags.setNZ (f : Flags) (r : Byte) : Flags := { f with n := r.getLsbD 7, z := decide (r = 0#8) }

/-- R140: the exact sum `A + M + C`, 0..511. -/
def adcSum (a m : Byte) (c : Bool) : Nat := a.toNat + m.toNat + c.toNat

/-- R140: `s & 0xFF`. -/
def adcResult (a m : Byte) (c : Bool) : Byte := BitVec.ofNat 8 (adcSum a m c)

/-- R140: N, V, Z and C of an addition of `m` to `a`; V is `(~(A ^ M) & (M ^ s) & 0x80) != 0`. -/
def Flags.adc (f : Flags) (a m : Byte) : Flags :=
  let r := adcResult a m f.c
  { f.setNZ r with
    v := decide ((~~~(a ^^^ m) &&& (m ^^^ r) &&& 0x80#8) ≠ 0#8)
    c := decide (0xFF < adcSum a m f.c) }

/-- R149, R150, R151: C is unsigned `reg >= M`, Z is `reg == M`, N is bit 7 of `reg - M`. -/
def Flags.compare (f : Flags) (reg m : Byte) : Flags :=
  { f with n := (reg - m).getLsbD 7, z := decide (reg = m), c := decide (m.toNat ≤ reg.toNat) }

/-- R152: N and V from bits 7 and 6 of the operand, Z from `A & M`. -/
def Flags.bitTest (f : Flags) (a m : Byte) : Flags :=
  { f with n := m.getLsbD 7, v := m.getLsbD 6, z := decide (a &&& m = 0#8) }

/-- R145: `(v << 1) & 0xFF`. -/
def aslByte (_c : Bool) (v : Byte) : Byte := v <<< 1

/-- R146: `v >> 1`. -/
def lsrByte (_c : Bool) (v : Byte) : Byte := v >>> 1

/-- R147: `((v << 1) & 0xFF) | c`. -/
def rolByte (c : Bool) (v : Byte) : Byte := (v <<< 1) ||| flagBit c 0

/-- R148: `(c << 7) | (v >> 1)`. -/
def rorByte (c : Bool) (v : Byte) : Byte := flagBit c 7 ||| (v >>> 1)

/-- R145, R147: C is bit 7 of the old value, N and Z are those of the result `r`. -/
def Flags.shiftLeft (f : Flags) (v r : Byte) : Flags := { f.setNZ r with c := v.getLsbD 7 }

/-- R146, R148: C is bit 0 of the old value, N and Z are those of the result `r`. -/
def Flags.shiftRight (f : Flags) (v r : Byte) : Flags := { f.setNZ r with c := v.getLsbD 0 }

/-- R170: `(v + 1) & 0xFF`. -/
def incByte (_c : Bool) (v : Byte) : Byte := v + 1#8

/-- R171: `(v - 1) & 0xFF`. -/
def decByte (_c : Bool) (v : Byte) : Byte := v - 1#8

/-- R170, R171: only N and Z, from the result. -/
def Flags.counted (f : Flags) (_v r : Byte) : Flags := f.setNZ r

/-- R161: BCC branches iff C = 0. -/
def bccTaken (f : Flags) : Bool := !f.c
/-- R162: BCS branches iff C = 1. -/
def bcsTaken (f : Flags) : Bool := f.c
/-- R163: BEQ branches iff Z = 1. -/
def beqTaken (f : Flags) : Bool := f.z
/-- R164: BNE branches iff Z = 0. -/
def bneTaken (f : Flags) : Bool := !f.z
/-- R165: BMI branches iff N = 1. -/
def bmiTaken (f : Flags) : Bool := f.n
/-- R166: BPL branches iff N = 0. -/
def bplTaken (f : Flags) : Bool := !f.n
/-- R167: BVC branches iff V = 0. -/
def bvcTaken (f : Flags) : Bool := !f.v
/-- R168: BVS branches iff V = 1. -/
def bvsTaken (f : Flags) : Bool := f.v

end Sys2Proof.Machine
end

