-- ==== Sys2Proof/Machine/Ops.lean ====
section
/-! DEFINITION. Machine/Ops.lean: the named operations over registers, memory, the stack and the engine. -/

namespace Sys2Proof.Machine

open Sys2Proof

/-- R31: `A <- v`, no other effect. -/
def State.setA (s : State) (v : Byte) : State := { s with a := v }
/-- R31: `X <- v`. -/
def State.setX (s : State) (v : Byte) : State := { s with x := v }
/-- R31: `Y <- v`. -/
def State.setY (s : State) (v : Byte) : State := { s with y := v }
/-- R31: `SP <- v`. -/
def State.setSp (s : State) (v : Byte) : State := { s with sp := v }
/-- R18: `PC <- target`. -/
def State.setPc (s : State) (w : Word) : State := { s with pc := w }
/-- R16: the flags are written. -/
def State.setFlags (s : State) (f : Flags) : State := { s with flags := f }
/-- R17 `SetNZ(r)`. -/
def State.setNZ (s : State) (r : Byte) : State := s.setFlags (s.flags.setNZ r)
/-- R130: `cycles <- cycles + n`. -/
def State.addCycles (s : State) (n : Nat) : State := { s with cycles := s.cycles + n }

/-- R17 `MemRead(a, 1)`. -/
def State.read (s : State) (a : Word) : Byte := s.mem.read a
/-- R17 `MemWrite(a, 1, v)`. -/
def State.write (s : State) (a : Word) (v : Byte) : State := { s with mem := s.mem.write a v }
/-- R17 `Read16(a)`. -/
def State.read16 (s : State) (a : Word) : Word := s.mem.read16 a
/-- R17 `ZpRead16(z)`. -/
def State.zpRead16 (s : State) (z : Byte) : Word := s.mem.zpRead16 z

/-- R34: the stack byte an SP names is at `0x0100 | SP`. -/
def stackAddr (sp : Byte) : Word := 0x0100#16 ||| sp.setWidth 16

/-- R17 `Push(v)`, R65: write, then decrement SP within 8 bits. -/
def State.push (s : State) (v : Byte) : State := (s.write (stackAddr s.sp) v).setSp (s.sp - 1#8)

/-- R17 `Pull()`, R65: increment SP within 8 bits. -/
def State.unpush (s : State) : State := s.setSp (s.sp + 1#8)

/-- R17 `Pull()`, R65: the byte read at the incremented SP. -/
def State.pulled (s : State) : Byte := s.unpush.read (stackAddr s.unpush.sp)

/-- R204, R207: a return address is pushed high byte first, so that it lies little-endian in memory. -/
def State.pushWord (s : State) (w : Word) : State := (s.push (highByte w)).push (lowByte w)

/-- R205, R206: the address pulled back, low byte first. -/
def State.pulledWord (s : State) : Word := wordOf s.pulled s.unpush.pulled

/-- R205, R206: SP after an address is pulled. -/
def State.unpushWord (s : State) : State := s.unpush.unpush

/-- R13, R261: the address of the reset vector. -/
def resetVector : Word := 0xFFFC#16

/-- R13, R241: the address of the BRK vector. -/
def breakVector : Word := 0xFFFE#16

/-- R207, R241: TAKING THE EXCEPTION, the core's only trap. PC is the address of the BRK + 1 (the fetch has advanced it).
Saved on the stack: the address of the BRK + 2, then `P | 0x30` with the I from before; then I is set and PC goes to
`Read16(0xFFFE)`. -/
def takeBreak (s : State) : State :=
  let s1 := s.pushWord (s.pc + 1#16)
  let s2 := s1.setFlags { s1.flags with b := true }
  let s3 := s2.push s2.flags.pushed
  let s4 := s3.setFlags { s3.flags with i := true }
  s4.setPc (s4.read16 breakVector)

/-- R206, R242: THE RETURN from it: every flag from the pulled status byte, then PC, with no +1. -/
def returnFromBreak (s : State) : State :=
  let s1 := s.unpush.setFlags (Flags.ofByte s.pulled)
  s1.unpushWord.setPc s1.pulledWord

/-- R127 `Modify` on the accumulator: `byte` of the old carry and the old value, `flags` of the old value and the
result. -/
def modifyA (byte : Bool → Byte → Byte) (flags : Flags → Byte → Byte → Flags) (s : State) : State :=
  let r := byte s.flags.c s.a
  (s.setA r).setFlags (flags s.flags s.a r)

/-- R127 `Modify` on the memory byte at `ea`. -/
def modifyAt (byte : Bool → Byte → Byte) (flags : Flags → Byte → Byte → Flags) (ea : Word) (s : State) : State :=
  let v := s.read ea
  let r := byte s.flags.c v
  (s.write ea r).setFlags (flags s.flags v r)

/-- R160: the target of a branch from `pc`, `mod16(PC + d)`. -/
def branchTarget (pc : Word) (d : Int) : Word := BitVec.ofInt 16 ((pc.toNat : Int) + d)

/-- R160: the shared branch mechanism; PC is the address of the next instruction. -/
def branch (taken : Bool) (d : Int) (s : State) : State :=
  if taken then s.setPc (branchTarget s.pc d) else s

/-- R111, R113: the bytes at PC, as many as the longest instruction has, wrapping mod 0x10000. -/
def fetchBytes (s : State) : List Byte := [s.read s.pc, s.read (s.pc + 1#16), s.read (s.pc + 2#16)]

/-- R35, R111, R113: PC advances past an instruction of `n` bytes, mod 0x10000. -/
def fetched (n : Nat) (s : State) : State := s.setPc (s.pc + BitVec.ofNat 16 n)

/-- R230: `raise Halt(kind, info)`. -/
def raiseHalt (e : EngineError) (s : State) : State := { s with run := .halted, err := some e }

/-- R231: the halt of an opcode byte with no table entry: recorded with its address, PC past the byte. -/
def haltInvalidOpcode (s : State) : State := raiseHalt (.invalidOpcode (s.read s.pc) s.pc) (fetched 1 s)

/-- R233: the code of an error record: 0 none, 1 InvalidOpcode, 2 AddressOutOfRange. -/
def errorCode : Option EngineError → Nat
  | none => 0
  | some (.invalidOpcode _ _) => 1
  | some (.addressOutOfRange _) => 2

/-- R11: what `step()` returns, read off the state it leaves: the cycle count, whether the engine is halted, the error. -/
def stepOutputs (s : State) : Nat × Bool × Option EngineError := (s.cycles, decide (s.run = .halted), s.err)

/-- R67: the initial memory of a PRG image: 32 KiB at 0x8000, or 16 KiB there and again at 0xC000; every other size is
refused by the loader and never reaches the core. -/
def load (image : List Byte) : Option Memory :=
  if image.length = 32768 then some (cellsFrom 0x8000 image)
  else if image.length = 16384 then some (cellsFrom 0x8000 (image ++ image))
  else none

/-- R260: `reset()`, callable in any state. Memory is not changed (D32), nor the open parameter. -/
def resetOp (s : State) : State :=
  { s with
    a := 0x00#8
    x := 0x00#8
    y := 0x00#8
    sp := 0xFD#8
    flags := { n := false, v := false, b := false, d := false, i := true, z := false, c := false }
    pc := s.read16 resetVector
    run := .running
    err := none
    cycles := 0 }

/-- R263: construction: `load(image)`, then one `reset()`; none where the loader refuses the image. -/
def construct (cfg : Config) (image : List Byte) : Option State :=
  (load image).map fun m => resetOp { State.reset with mem := m, cfg := cfg }

/-- The host's placing of an instruction for `State.withFetchWord`: the bytes of `w` (the first in bits 7..0; bits from
`nbits` up are 0) at PC, and the engine Running (DESIGN CHOICE, log entry 6). -/
def placeAtPc (s : State) (nbits w : Nat) : State :=
  let v := w % 2 ^ nbits
  let s1 := s.write s.pc (BitVec.ofNat 8 v)
  let s2 := s1.write (s.pc + 1#16) (BitVec.ofNat 8 (v / 0x100))
  let s3 := s2.write (s.pc + 2#16) (BitVec.ofNat 8 (v / 0x10000))
  { s3 with run := .running, err := none }

end Sys2Proof.Machine
end

