-- ==== Sys2Proof/Machine/Operands.lean ====
section
/-! DEFINITION. Machine/Operands.lean: the addressing-mode resolver (R113 to R126) on operands already fetched, and the
operand access primitives (R127). The resolver reads memory, X and Y and writes nothing. -/

namespace Sys2Proof.Machine

open Sys2Proof

/-- R113: the operand `Addr(ea, crossed)` of a memory mode. -/
structure EffAddr where
  /-- The effective address. -/
  ea : Word
  /-- R125: whether adding the index changed the high byte of a 16-bit base. -/
  crossed : Bool
  deriving DecidableEq, Repr

/-- R115. -/
def zeropage (z : Byte) : EffAddr := { ea := z.setWidth 16, crossed := false }

/-- R116: `(z + X) & 0xFF`, no carry into the high byte. -/
def zeropageX (z : Byte) (s : State) : EffAddr := zeropage (z + s.x)

/-- R117: `(z + Y) & 0xFF`. -/
def zeropageY (z : Byte) (s : State) : EffAddr := zeropage (z + s.y)

/-- R118. -/
def absolute (w : Word) : EffAddr := { ea := w, crossed := false }

/-- R119, R120, R123: an index added to a 16-bit base, with carry into the high byte. -/
def indexed (base : Word) (index : Byte) : EffAddr :=
  let ea := base + index.setWidth 16
  { ea := ea, crossed := decide ((base &&& 0xFF00#16) ≠ (ea &&& 0xFF00#16)) }

/-- R119. -/
def absoluteX (w : Word) (s : State) : EffAddr := indexed w s.x

/-- R120. -/
def absoluteY (w : Word) (s : State) : EffAddr := indexed w s.y

/-- R121: the target of an indirect JMP, by the open parameter `JMP_IND_PAGE_WRAP`. -/
def indirect (ptr : Word) (s : State) : EffAddr :=
  if s.cfg.jmpIndPageWrap then
    { ea := wordOf (s.read ptr) (s.read ((ptr &&& 0xFF00#16) ||| ((ptr + 1#16) &&& 0x00FF#16))), crossed := false }
  else
    { ea := s.read16 ptr, crossed := false }

/-- R122: the pointer wraps in the zero page, and so does its second byte. -/
def xIndirect (z : Byte) (s : State) : EffAddr := { ea := s.zpRead16 (z + s.x), crossed := false }

/-- R123. -/
def indirectY (z : Byte) (s : State) : EffAddr := indexed (s.zpRead16 z) s.y

/-- R125: the page-cross report of an instruction's operand: false for every mode but absolute_x, absolute_y and
indirect_y. -/
def pageCrossed (i : Instr) (s : State) : Bool :=
  match i.mode, i.arg with
  | .absoluteX, .word w => (absoluteX w s).crossed
  | .absoluteY, .word w => (absoluteY w s).crossed
  | .indirectY, .byte z => (indirectY z s).crossed
  | _, _ => false

/-- R127 `Load(Addr(ea, _))`. -/
def load8 (e : EffAddr) (s : State) : Byte := s.read e.ea

/-- R127 `Store(Addr(ea, _), v)`; a store never reads EA. -/
def store8 (e : EffAddr) (v : Byte) (s : State) : State := s.write e.ea v

end Sys2Proof.Machine
end

