-- ==== Sys2Proof/Machine/Cycles.lean ====
section
/-! DEFINITION. Machine/Cycles.lean: the cycle cost of a step (R130, R131, R275). Timing only: nothing reads it (R132). -/

namespace Sys2Proof.Machine

open Sys2Proof

/-- R275: the base cycle count of an instruction, `base_cycles` of opcode_table.json. -/
def baseCycles : Instr → Nat
  | .adcImmediate _ | .sbcImmediate _ | .andImmediate _ | .oraImmediate _ | .eorImmediate _
  | .aslAccumulator | .lsrAccumulator | .rolAccumulator | .rorAccumulator | .cmpImmediate _
  | .cpxImmediate _ | .cpyImmediate _ | .bcc _ | .bcs _ | .beq _ | .bne _ | .bmi _ | .bpl _ | .bvc _
  | .bvs _ | .inx | .iny | .dex | .dey | .ldaImmediate _ | .ldxImmediate _ | .ldyImmediate _ | .tax | .tay
  | .txa | .tya | .tsx | .txs | .sec | .clc | .sei | .cli | .sed | .cld | .clv | .nop => 2
  | .adcZeropage _ | .sbcZeropage _ | .andZeropage _ | .oraZeropage _ | .eorZeropage _ | .cmpZeropage _
  | .cpxZeropage _ | .cpyZeropage _ | .bitZeropage _ | .ldaZeropage _ | .ldxZeropage _ | .ldyZeropage _
  | .staZeropage _ | .stxZeropage _ | .styZeropage _ | .pha | .php | .jmpAbsolute _ => 3
  | .adcZeropageX _ | .adcAbsolute _ | .adcAbsoluteX _ | .adcAbsoluteY _ | .sbcZeropageX _ | .sbcAbsolute _
  | .sbcAbsoluteX _ | .sbcAbsoluteY _ | .andZeropageX _ | .andAbsolute _ | .andAbsoluteX _
  | .andAbsoluteY _ | .oraZeropageX _ | .oraAbsolute _ | .oraAbsoluteX _ | .oraAbsoluteY _
  | .eorZeropageX _ | .eorAbsolute _ | .eorAbsoluteX _ | .eorAbsoluteY _ | .cmpZeropageX _ | .cmpAbsolute _
  | .cmpAbsoluteX _ | .cmpAbsoluteY _ | .cpxAbsolute _ | .cpyAbsolute _ | .bitAbsolute _ | .ldaZeropageX _
  | .ldaAbsolute _ | .ldaAbsoluteX _ | .ldaAbsoluteY _ | .ldxZeropageY _ | .ldxAbsolute _ | .ldxAbsoluteY _
  | .ldyZeropageX _ | .ldyAbsolute _ | .ldyAbsoluteX _ | .staZeropageX _ | .staAbsolute _ | .stxZeropageY _
  | .stxAbsolute _ | .styZeropageX _ | .styAbsolute _ | .pla | .plp => 4
  | .adcIndirectY _ | .sbcIndirectY _ | .andIndirectY _ | .oraIndirectY _ | .eorIndirectY _
  | .aslZeropage _ | .lsrZeropage _ | .rolZeropage _ | .rorZeropage _ | .cmpIndirectY _ | .incZeropage _
  | .decZeropage _ | .ldaIndirectY _ | .staAbsoluteX _ | .staAbsoluteY _ | .jmpIndirect _ => 5
  | .adcXIndirect _ | .sbcXIndirect _ | .andXIndirect _ | .oraXIndirect _ | .eorXIndirect _
  | .aslZeropageX _ | .aslAbsolute _ | .lsrZeropageX _ | .lsrAbsolute _ | .rolZeropageX _ | .rolAbsolute _
  | .rorZeropageX _ | .rorAbsolute _ | .cmpXIndirect _ | .incZeropageX _ | .incAbsolute _ | .decZeropageX _
  | .decAbsolute _ | .ldaXIndirect _ | .staXIndirect _ | .staIndirectY _ | .jsr _ | .rts | .rti => 6
  | .aslAbsoluteX _ | .lsrAbsoluteX _ | .rolAbsoluteX _ | .rorAbsoluteX _ | .incAbsoluteX _
  | .decAbsoluteX _ | .brk => 7

/-- R131: the opcodes that pay a cycle when their operand crosses a page (`page_cross_penalty` in opcode_table.json). -/
def paysPageCross (i : Instr) : Bool :=
  (decide (i.mnemonic ∈ [.adc, .and, .cmp, .eor, .lda, .ora, .sbc]) &&
      decide (i.mode ∈ [.absoluteX, .absoluteY, .indirectY])) ||
    (decide (i.mnemonic = .ldx) && decide (i.mode = .absoluteY)) ||
    (decide (i.mnemonic = .ldy) && decide (i.mode = .absoluteX))

/-- R161 to R168: whether a branch of this mnemonic is taken; no other mnemonic branches. -/
def branchTaken (mn : Mnemonic) (f : Flags) : Bool :=
  match mn with
  | .bcc => bccTaken f
  | .bcs => bcsTaken f
  | .beq => beqTaken f
  | .bne => bneTaken f
  | .bmi => bmiTaken f
  | .bpl => bplTaken f
  | .bvc => bvcTaken f
  | .bvs => bvsTaken f
  | _ => false

/-- R131, R160: 0 when not taken, 1 when taken to the same page, 2 across a page. -/
def branchPenalty (taken : Bool) (d : Int) (s : State) : Nat :=
  if taken then
    if (s.pc &&& 0xFF00#16) = (branchTarget s.pc d &&& 0xFF00#16) then 1 else 2
  else 0

/-- R131: the penalty of an instruction run at `s`, PC past it. -/
def penalty (i : Instr) (s : State) : Nat :=
  match i.arg with
  | .rel d => branchPenalty (branchTaken i.mnemonic s.flags) d s
  | _ => if paysPageCross i && pageCrossed i s then 1 else 0

/-- R130: `Cost = base + p`. -/
def cost (i : Instr) (s : State) : Nat := baseCycles i + penalty i s

/-- R110: the cost is added to `cycles` when the instruction has run. -/
def charge (n : Nat) : Result → Result
  | .next s => .next (s.addCycles n)
  | .fault f => .fault f
  | .refused r => .refused r

end Sys2Proof.Machine
end

