-- ==== Sys2Proof/Machine/Alu.lean ====
section
/-! DEFINITION. Machine/Alu.lean: add and subtract, logic, compare and bit test (R140 to R144, R149 to R152). -/

namespace Sys2Proof.Machine

open Sys2Proof

/-- R140: ADC, binary whatever D holds (D4). -/
def adc (m : Byte) (s : State) : State := (s.setA (adcResult s.a m s.flags.c)).setFlags (s.flags.adc s.a m)

/-- R141: SBC, which is ADC with the operand's one's complement. -/
def sbc (m : Byte) (s : State) : State := adc (~~~m) s

/-- R142: `A <- A & M; SetNZ(A)`. -/
def andA (m : Byte) (s : State) : State := (s.setA (s.a &&& m)).setNZ (s.a &&& m)

/-- R143: `A <- A | M; SetNZ(A)`. -/
def oraA (m : Byte) (s : State) : State := (s.setA (s.a ||| m)).setNZ (s.a ||| m)

/-- R144: `A <- A ^ M; SetNZ(A)`. -/
def eorA (m : Byte) (s : State) : State := (s.setA (s.a ^^^ m)).setNZ (s.a ^^^ m)

/-- R149: CMP; the difference is not stored. -/
def compareA (m : Byte) (s : State) : State := s.setFlags (s.flags.compare s.a m)

/-- R150: CPX. -/
def compareX (m : Byte) (s : State) : State := s.setFlags (s.flags.compare s.x m)

/-- R151: CPY. -/
def compareY (m : Byte) (s : State) : State := s.setFlags (s.flags.compare s.y m)

/-- R152: BIT. -/
def bitTest (m : Byte) (s : State) : State := s.setFlags (s.flags.bitTest s.a m)

/-- R140, immediate, opcode 0x69. -/
def execAdcImmediate (v : Byte) (s : State) : Result := .next (adc v s)

/-- R140, zeropage, opcode 0x65. -/
def execAdcZeropage (z : Byte) (s : State) : Result := .next (adc (load8 (zeropage z) s) s)

/-- R140, zeropage_x, opcode 0x75. -/
def execAdcZeropageX (z : Byte) (s : State) : Result := .next (adc (load8 (zeropageX z s) s) s)

/-- R140, absolute, opcode 0x6D. -/
def execAdcAbsolute (w : Word) (s : State) : Result := .next (adc (load8 (absolute w) s) s)

/-- R140, absolute_x, opcode 0x7D. -/
def execAdcAbsoluteX (w : Word) (s : State) : Result := .next (adc (load8 (absoluteX w s) s) s)

/-- R140, absolute_y, opcode 0x79. -/
def execAdcAbsoluteY (w : Word) (s : State) : Result := .next (adc (load8 (absoluteY w s) s) s)

/-- R140, x_indirect, opcode 0x61. -/
def execAdcXIndirect (z : Byte) (s : State) : Result := .next (adc (load8 (xIndirect z s) s) s)

/-- R140, indirect_y, opcode 0x71. -/
def execAdcIndirectY (z : Byte) (s : State) : Result := .next (adc (load8 (indirectY z s) s) s)

/-- R141, immediate, opcode 0xE9. -/
def execSbcImmediate (v : Byte) (s : State) : Result := .next (sbc v s)

/-- R141, zeropage, opcode 0xE5. -/
def execSbcZeropage (z : Byte) (s : State) : Result := .next (sbc (load8 (zeropage z) s) s)

/-- R141, zeropage_x, opcode 0xF5. -/
def execSbcZeropageX (z : Byte) (s : State) : Result := .next (sbc (load8 (zeropageX z s) s) s)

/-- R141, absolute, opcode 0xED. -/
def execSbcAbsolute (w : Word) (s : State) : Result := .next (sbc (load8 (absolute w) s) s)

/-- R141, absolute_x, opcode 0xFD. -/
def execSbcAbsoluteX (w : Word) (s : State) : Result := .next (sbc (load8 (absoluteX w s) s) s)

/-- R141, absolute_y, opcode 0xF9. -/
def execSbcAbsoluteY (w : Word) (s : State) : Result := .next (sbc (load8 (absoluteY w s) s) s)

/-- R141, x_indirect, opcode 0xE1. -/
def execSbcXIndirect (z : Byte) (s : State) : Result := .next (sbc (load8 (xIndirect z s) s) s)

/-- R141, indirect_y, opcode 0xF1. -/
def execSbcIndirectY (z : Byte) (s : State) : Result := .next (sbc (load8 (indirectY z s) s) s)

/-- R142, immediate, opcode 0x29. -/
def execAndImmediate (v : Byte) (s : State) : Result := .next (andA v s)

/-- R142, zeropage, opcode 0x25. -/
def execAndZeropage (z : Byte) (s : State) : Result := .next (andA (load8 (zeropage z) s) s)

/-- R142, zeropage_x, opcode 0x35. -/
def execAndZeropageX (z : Byte) (s : State) : Result := .next (andA (load8 (zeropageX z s) s) s)

/-- R142, absolute, opcode 0x2D. -/
def execAndAbsolute (w : Word) (s : State) : Result := .next (andA (load8 (absolute w) s) s)

/-- R142, absolute_x, opcode 0x3D. -/
def execAndAbsoluteX (w : Word) (s : State) : Result := .next (andA (load8 (absoluteX w s) s) s)

/-- R142, absolute_y, opcode 0x39. -/
def execAndAbsoluteY (w : Word) (s : State) : Result := .next (andA (load8 (absoluteY w s) s) s)

/-- R142, x_indirect, opcode 0x21. -/
def execAndXIndirect (z : Byte) (s : State) : Result := .next (andA (load8 (xIndirect z s) s) s)

/-- R142, indirect_y, opcode 0x31. -/
def execAndIndirectY (z : Byte) (s : State) : Result := .next (andA (load8 (indirectY z s) s) s)

/-- R143, immediate, opcode 0x09. -/
def execOraImmediate (v : Byte) (s : State) : Result := .next (oraA v s)

/-- R143, zeropage, opcode 0x05. -/
def execOraZeropage (z : Byte) (s : State) : Result := .next (oraA (load8 (zeropage z) s) s)

/-- R143, zeropage_x, opcode 0x15. -/
def execOraZeropageX (z : Byte) (s : State) : Result := .next (oraA (load8 (zeropageX z s) s) s)

/-- R143, absolute, opcode 0x0D. -/
def execOraAbsolute (w : Word) (s : State) : Result := .next (oraA (load8 (absolute w) s) s)

/-- R143, absolute_x, opcode 0x1D. -/
def execOraAbsoluteX (w : Word) (s : State) : Result := .next (oraA (load8 (absoluteX w s) s) s)

/-- R143, absolute_y, opcode 0x19. -/
def execOraAbsoluteY (w : Word) (s : State) : Result := .next (oraA (load8 (absoluteY w s) s) s)

/-- R143, x_indirect, opcode 0x01. -/
def execOraXIndirect (z : Byte) (s : State) : Result := .next (oraA (load8 (xIndirect z s) s) s)

/-- R143, indirect_y, opcode 0x11. -/
def execOraIndirectY (z : Byte) (s : State) : Result := .next (oraA (load8 (indirectY z s) s) s)

/-- R144, immediate, opcode 0x49. -/
def execEorImmediate (v : Byte) (s : State) : Result := .next (eorA v s)

/-- R144, zeropage, opcode 0x45. -/
def execEorZeropage (z : Byte) (s : State) : Result := .next (eorA (load8 (zeropage z) s) s)

/-- R144, zeropage_x, opcode 0x55. -/
def execEorZeropageX (z : Byte) (s : State) : Result := .next (eorA (load8 (zeropageX z s) s) s)

/-- R144, absolute, opcode 0x4D. -/
def execEorAbsolute (w : Word) (s : State) : Result := .next (eorA (load8 (absolute w) s) s)

/-- R144, absolute_x, opcode 0x5D. -/
def execEorAbsoluteX (w : Word) (s : State) : Result := .next (eorA (load8 (absoluteX w s) s) s)

/-- R144, absolute_y, opcode 0x59. -/
def execEorAbsoluteY (w : Word) (s : State) : Result := .next (eorA (load8 (absoluteY w s) s) s)

/-- R144, x_indirect, opcode 0x41. -/
def execEorXIndirect (z : Byte) (s : State) : Result := .next (eorA (load8 (xIndirect z s) s) s)

/-- R144, indirect_y, opcode 0x51. -/
def execEorIndirectY (z : Byte) (s : State) : Result := .next (eorA (load8 (indirectY z s) s) s)

/-- R149, immediate, opcode 0xC9. -/
def execCmpImmediate (v : Byte) (s : State) : Result := .next (compareA v s)

/-- R149, zeropage, opcode 0xC5. -/
def execCmpZeropage (z : Byte) (s : State) : Result := .next (compareA (load8 (zeropage z) s) s)

/-- R149, zeropage_x, opcode 0xD5. -/
def execCmpZeropageX (z : Byte) (s : State) : Result := .next (compareA (load8 (zeropageX z s) s) s)

/-- R149, absolute, opcode 0xCD. -/
def execCmpAbsolute (w : Word) (s : State) : Result := .next (compareA (load8 (absolute w) s) s)

/-- R149, absolute_x, opcode 0xDD. -/
def execCmpAbsoluteX (w : Word) (s : State) : Result := .next (compareA (load8 (absoluteX w s) s) s)

/-- R149, absolute_y, opcode 0xD9. -/
def execCmpAbsoluteY (w : Word) (s : State) : Result := .next (compareA (load8 (absoluteY w s) s) s)

/-- R149, x_indirect, opcode 0xC1. -/
def execCmpXIndirect (z : Byte) (s : State) : Result := .next (compareA (load8 (xIndirect z s) s) s)

/-- R149, indirect_y, opcode 0xD1. -/
def execCmpIndirectY (z : Byte) (s : State) : Result := .next (compareA (load8 (indirectY z s) s) s)

/-- R150, immediate, opcode 0xE0. -/
def execCpxImmediate (v : Byte) (s : State) : Result := .next (compareX v s)

/-- R150, zeropage, opcode 0xE4. -/
def execCpxZeropage (z : Byte) (s : State) : Result := .next (compareX (load8 (zeropage z) s) s)

/-- R150, absolute, opcode 0xEC. -/
def execCpxAbsolute (w : Word) (s : State) : Result := .next (compareX (load8 (absolute w) s) s)

/-- R151, immediate, opcode 0xC0. -/
def execCpyImmediate (v : Byte) (s : State) : Result := .next (compareY v s)

/-- R151, zeropage, opcode 0xC4. -/
def execCpyZeropage (z : Byte) (s : State) : Result := .next (compareY (load8 (zeropage z) s) s)

/-- R151, absolute, opcode 0xCC. -/
def execCpyAbsolute (w : Word) (s : State) : Result := .next (compareY (load8 (absolute w) s) s)

/-- R152, zeropage, opcode 0x24. -/
def execBitZeropage (z : Byte) (s : State) : Result := .next (bitTest (load8 (zeropage z) s) s)

/-- R152, absolute, opcode 0x2C. -/
def execBitAbsolute (w : Word) (s : State) : Result := .next (bitTest (load8 (absolute w) s) s)

end Sys2Proof.Machine
end

