-- ==== Sys2Proof/Machine/Branch.lean ====
section
/-! DEFINITION. Machine/Branch.lean: conditional branches (R160 to R168). -/

namespace Sys2Proof.Machine

open Sys2Proof

/-- R161, relative, opcode 0x90. -/
def execBcc (d : Int) (s : State) : Result := .next (branch (bccTaken s.flags) d s)

/-- R162, relative, opcode 0xB0. -/
def execBcs (d : Int) (s : State) : Result := .next (branch (bcsTaken s.flags) d s)

/-- R163, relative, opcode 0xF0. -/
def execBeq (d : Int) (s : State) : Result := .next (branch (beqTaken s.flags) d s)

/-- R164, relative, opcode 0xD0. -/
def execBne (d : Int) (s : State) : Result := .next (branch (bneTaken s.flags) d s)

/-- R165, relative, opcode 0x30. -/
def execBmi (d : Int) (s : State) : Result := .next (branch (bmiTaken s.flags) d s)

/-- R166, relative, opcode 0x10. -/
def execBpl (d : Int) (s : State) : Result := .next (branch (bplTaken s.flags) d s)

/-- R167, relative, opcode 0x50. -/
def execBvc (d : Int) (s : State) : Result := .next (branch (bvcTaken s.flags) d s)

/-- R168, relative, opcode 0x70. -/
def execBvs (d : Int) (s : State) : Result := .next (branch (bvsTaken s.flags) d s)

end Sys2Proof.Machine
end

