-- ==== Sys2Proof/Machine/FlagOps.lean ====
section
/-! DEFINITION. Machine/FlagOps.lean: flag set and clear, NOP (R220 to R227). -/

namespace Sys2Proof.Machine

open Sys2Proof

/-- R220, implied, opcode 0x38. -/
def execSec (s : State) : Result := .next (s.setFlags { s.flags with c := true })

/-- R221, implied, opcode 0x18. -/
def execClc (s : State) : Result := .next (s.setFlags { s.flags with c := false })

/-- R222, implied, opcode 0x78. -/
def execSei (s : State) : Result := .next (s.setFlags { s.flags with i := true })

/-- R223, implied, opcode 0x58. -/
def execCli (s : State) : Result := .next (s.setFlags { s.flags with i := false })

/-- R224, implied, opcode 0xF8. -/
def execSed (s : State) : Result := .next (s.setFlags { s.flags with d := true })

/-- R225, implied, opcode 0xD8. -/
def execCld (s : State) : Result := .next (s.setFlags { s.flags with d := false })

/-- R226, implied, opcode 0xB8. -/
def execClv (s : State) : Result := .next (s.setFlags { s.flags with v := false })

/-- R227, implied, opcode 0xEA. -/
def execNop (s : State) : Result := .next s

end Sys2Proof.Machine
end

