-- ==== Sys2Proof/Machine/IncDec.lean ====
section
/-! DEFINITION. Machine/IncDec.lean: increment and decrement (R170 to R175). -/

namespace Sys2Proof.Machine

open Sys2Proof

/-- R170, zeropage, opcode 0xE6. -/
def execIncZeropage (z : Byte) (s : State) : Result := .next (modifyAt incByte Flags.counted (zeropage z).ea s)

/-- R170, zeropage_x, opcode 0xF6. -/
def execIncZeropageX (z : Byte) (s : State) : Result := .next (modifyAt incByte Flags.counted (zeropageX z s).ea s)

/-- R170, absolute, opcode 0xEE. -/
def execIncAbsolute (w : Word) (s : State) : Result := .next (modifyAt incByte Flags.counted (absolute w).ea s)

/-- R170, absolute_x, opcode 0xFE. -/
def execIncAbsoluteX (w : Word) (s : State) : Result := .next (modifyAt incByte Flags.counted (absoluteX w s).ea s)

/-- R171, zeropage, opcode 0xC6. -/
def execDecZeropage (z : Byte) (s : State) : Result := .next (modifyAt decByte Flags.counted (zeropage z).ea s)

/-- R171, zeropage_x, opcode 0xD6. -/
def execDecZeropageX (z : Byte) (s : State) : Result := .next (modifyAt decByte Flags.counted (zeropageX z s).ea s)

/-- R171, absolute, opcode 0xCE. -/
def execDecAbsolute (w : Word) (s : State) : Result := .next (modifyAt decByte Flags.counted (absolute w).ea s)

/-- R171, absolute_x, opcode 0xDE. -/
def execDecAbsoluteX (w : Word) (s : State) : Result := .next (modifyAt decByte Flags.counted (absoluteX w s).ea s)

/-- R172, implied, opcode 0xE8. -/
def execInx (s : State) : Result := .next ((s.setX (s.x + 1#8)).setNZ (s.x + 1#8))

/-- R173, implied, opcode 0xC8. -/
def execIny (s : State) : Result := .next ((s.setY (s.y + 1#8)).setNZ (s.y + 1#8))

/-- R174, implied, opcode 0xCA. -/
def execDex (s : State) : Result := .next ((s.setX (s.x - 1#8)).setNZ (s.x - 1#8))

/-- R175, implied, opcode 0x88. -/
def execDey (s : State) : Result := .next ((s.setY (s.y - 1#8)).setNZ (s.y - 1#8))

end Sys2Proof.Machine
end

