-- ==== Sys2Proof/Machine/LoadStore.lean ====
section
/-! DEFINITION. Machine/LoadStore.lean: loads, register transfers and stores (R180 to R191). -/

namespace Sys2Proof.Machine

open Sys2Proof

/-- The register A takes a byte, and N and Z are set from it. -/
def loadA (v : Byte) (s : State) : State := (s.setA v).setNZ v

/-- The register X takes a byte, and N and Z are set from it. -/
def loadX (v : Byte) (s : State) : State := (s.setX v).setNZ v

/-- The register Y takes a byte, and N and Z are set from it. -/
def loadY (v : Byte) (s : State) : State := (s.setY v).setNZ v

/-- R180, immediate, opcode 0xA9. -/
def execLdaImmediate (v : Byte) (s : State) : Result := .next (loadA v s)

/-- R180, zeropage, opcode 0xA5. -/
def execLdaZeropage (z : Byte) (s : State) : Result := .next (loadA (load8 (zeropage z) s) s)

/-- R180, zeropage_x, opcode 0xB5. -/
def execLdaZeropageX (z : Byte) (s : State) : Result := .next (loadA (load8 (zeropageX z s) s) s)

/-- R180, absolute, opcode 0xAD. -/
def execLdaAbsolute (w : Word) (s : State) : Result := .next (loadA (load8 (absolute w) s) s)

/-- R180, absolute_x, opcode 0xBD. -/
def execLdaAbsoluteX (w : Word) (s : State) : Result := .next (loadA (load8 (absoluteX w s) s) s)

/-- R180, absolute_y, opcode 0xB9. -/
def execLdaAbsoluteY (w : Word) (s : State) : Result := .next (loadA (load8 (absoluteY w s) s) s)

/-- R180, x_indirect, opcode 0xA1. -/
def execLdaXIndirect (z : Byte) (s : State) : Result := .next (loadA (load8 (xIndirect z s) s) s)

/-- R180, indirect_y, opcode 0xB1. -/
def execLdaIndirectY (z : Byte) (s : State) : Result := .next (loadA (load8 (indirectY z s) s) s)

/-- R181, immediate, opcode 0xA2. -/
def execLdxImmediate (v : Byte) (s : State) : Result := .next (loadX v s)

/-- R181, zeropage, opcode 0xA6. -/
def execLdxZeropage (z : Byte) (s : State) : Result := .next (loadX (load8 (zeropage z) s) s)

/-- R181, zeropage_y, opcode 0xB6. -/
def execLdxZeropageY (z : Byte) (s : State) : Result := .next (loadX (load8 (zeropageY z s) s) s)

/-- R181, absolute, opcode 0xAE. -/
def execLdxAbsolute (w : Word) (s : State) : Result := .next (loadX (load8 (absolute w) s) s)

/-- R181, absolute_y, opcode 0xBE. -/
def execLdxAbsoluteY (w : Word) (s : State) : Result := .next (loadX (load8 (absoluteY w s) s) s)

/-- R182, immediate, opcode 0xA0. -/
def execLdyImmediate (v : Byte) (s : State) : Result := .next (loadY v s)

/-- R182, zeropage, opcode 0xA4. -/
def execLdyZeropage (z : Byte) (s : State) : Result := .next (loadY (load8 (zeropage z) s) s)

/-- R182, zeropage_x, opcode 0xB4. -/
def execLdyZeropageX (z : Byte) (s : State) : Result := .next (loadY (load8 (zeropageX z s) s) s)

/-- R182, absolute, opcode 0xAC. -/
def execLdyAbsolute (w : Word) (s : State) : Result := .next (loadY (load8 (absolute w) s) s)

/-- R182, absolute_x, opcode 0xBC. -/
def execLdyAbsoluteX (w : Word) (s : State) : Result := .next (loadY (load8 (absoluteX w s) s) s)

/-- R183, implied, opcode 0xAA. -/
def execTax (s : State) : Result := .next (loadX s.a s)

/-- R184, implied, opcode 0xA8. -/
def execTay (s : State) : Result := .next (loadY s.a s)

/-- R185, implied, opcode 0x8A. -/
def execTxa (s : State) : Result := .next (loadA s.x s)

/-- R186, implied, opcode 0x98. -/
def execTya (s : State) : Result := .next (loadA s.y s)

/-- R187, implied, opcode 0xBA. -/
def execTsx (s : State) : Result := .next (loadX s.sp s)

/-- R188, implied, opcode 0x9A. -/
def execTxs (s : State) : Result := .next (s.setSp s.x)

/-- R189, zeropage, opcode 0x85. -/
def execStaZeropage (z : Byte) (s : State) : Result := .next (store8 (zeropage z) s.a s)

/-- R189, zeropage_x, opcode 0x95. -/
def execStaZeropageX (z : Byte) (s : State) : Result := .next (store8 (zeropageX z s) s.a s)

/-- R189, absolute, opcode 0x8D. -/
def execStaAbsolute (w : Word) (s : State) : Result := .next (store8 (absolute w) s.a s)

/-- R189, absolute_x, opcode 0x9D. -/
def execStaAbsoluteX (w : Word) (s : State) : Result := .next (store8 (absoluteX w s) s.a s)

/-- R189, absolute_y, opcode 0x99. -/
def execStaAbsoluteY (w : Word) (s : State) : Result := .next (store8 (absoluteY w s) s.a s)

/-- R189, x_indirect, opcode 0x81. -/
def execStaXIndirect (z : Byte) (s : State) : Result := .next (store8 (xIndirect z s) s.a s)

/-- R189, indirect_y, opcode 0x91. -/
def execStaIndirectY (z : Byte) (s : State) : Result := .next (store8 (indirectY z s) s.a s)

/-- R190, zeropage, opcode 0x86. -/
def execStxZeropage (z : Byte) (s : State) : Result := .next (store8 (zeropage z) s.x s)

/-- R190, zeropage_y, opcode 0x96. -/
def execStxZeropageY (z : Byte) (s : State) : Result := .next (store8 (zeropageY z s) s.x s)

/-- R190, absolute, opcode 0x8E. -/
def execStxAbsolute (w : Word) (s : State) : Result := .next (store8 (absolute w) s.x s)

/-- R191, zeropage, opcode 0x84. -/
def execStyZeropage (z : Byte) (s : State) : Result := .next (store8 (zeropage z) s.y s)

/-- R191, zeropage_x, opcode 0x94. -/
def execStyZeropageX (z : Byte) (s : State) : Result := .next (store8 (zeropageX z s) s.y s)

/-- R191, absolute, opcode 0x8C. -/
def execStyAbsolute (w : Word) (s : State) : Result := .next (store8 (absolute w) s.y s)

end Sys2Proof.Machine
end

