-- ==== Sys2Proof/Machine/Shift.lean ====
section
/-! DEFINITION. Machine/Shift.lean: shifts and rotates (R145 to R148). -/

namespace Sys2Proof.Machine

open Sys2Proof

/-- R145, zeropage, opcode 0x06. -/
def execAslZeropage (z : Byte) (s : State) : Result := .next (modifyAt aslByte Flags.shiftLeft (zeropage z).ea s)

/-- R145, zeropage_x, opcode 0x16. -/
def execAslZeropageX (z : Byte) (s : State) : Result := .next (modifyAt aslByte Flags.shiftLeft (zeropageX z s).ea s)

/-- R145, absolute, opcode 0x0E. -/
def execAslAbsolute (w : Word) (s : State) : Result := .next (modifyAt aslByte Flags.shiftLeft (absolute w).ea s)

/-- R145, absolute_x, opcode 0x1E. -/
def execAslAbsoluteX (w : Word) (s : State) : Result := .next (modifyAt aslByte Flags.shiftLeft (absoluteX w s).ea s)

/-- R145, accumulator, opcode 0x0A. -/
def execAslAccumulator (s : State) : Result := .next (modifyA aslByte Flags.shiftLeft s)

/-- R146, zeropage, opcode 0x46. -/
def execLsrZeropage (z : Byte) (s : State) : Result := .next (modifyAt lsrByte Flags.shiftRight (zeropage z).ea s)

/-- R146, zeropage_x, opcode 0x56. -/
def execLsrZeropageX (z : Byte) (s : State) : Result := .next (modifyAt lsrByte Flags.shiftRight (zeropageX z s).ea s)

/-- R146, absolute, opcode 0x4E. -/
def execLsrAbsolute (w : Word) (s : State) : Result := .next (modifyAt lsrByte Flags.shiftRight (absolute w).ea s)

/-- R146, absolute_x, opcode 0x5E. -/
def execLsrAbsoluteX (w : Word) (s : State) : Result := .next (modifyAt lsrByte Flags.shiftRight (absoluteX w s).ea s)

/-- R146, accumulator, opcode 0x4A. -/
def execLsrAccumulator (s : State) : Result := .next (modifyA lsrByte Flags.shiftRight s)

/-- R147, zeropage, opcode 0x26. -/
def execRolZeropage (z : Byte) (s : State) : Result := .next (modifyAt rolByte Flags.shiftLeft (zeropage z).ea s)

/-- R147, zeropage_x, opcode 0x36. -/
def execRolZeropageX (z : Byte) (s : State) : Result := .next (modifyAt rolByte Flags.shiftLeft (zeropageX z s).ea s)

/-- R147, absolute, opcode 0x2E. -/
def execRolAbsolute (w : Word) (s : State) : Result := .next (modifyAt rolByte Flags.shiftLeft (absolute w).ea s)

/-- R147, absolute_x, opcode 0x3E. -/
def execRolAbsoluteX (w : Word) (s : State) : Result := .next (modifyAt rolByte Flags.shiftLeft (absoluteX w s).ea s)

/-- R147, accumulator, opcode 0x2A. -/
def execRolAccumulator (s : State) : Result := .next (modifyA rolByte Flags.shiftLeft s)

/-- R148, zeropage, opcode 0x66. -/
def execRorZeropage (z : Byte) (s : State) : Result := .next (modifyAt rorByte Flags.shiftRight (zeropage z).ea s)

/-- R148, zeropage_x, opcode 0x76. -/
def execRorZeropageX (z : Byte) (s : State) : Result := .next (modifyAt rorByte Flags.shiftRight (zeropageX z s).ea s)

/-- R148, absolute, opcode 0x6E. -/
def execRorAbsolute (w : Word) (s : State) : Result := .next (modifyAt rorByte Flags.shiftRight (absolute w).ea s)

/-- R148, absolute_x, opcode 0x7E. -/
def execRorAbsoluteX (w : Word) (s : State) : Result := .next (modifyAt rorByte Flags.shiftRight (absoluteX w s).ea s)

/-- R148, accumulator, opcode 0x6A. -/
def execRorAccumulator (s : State) : Result := .next (modifyA rorByte Flags.shiftRight s)

end Sys2Proof.Machine
end

