-- ==== Sys2Proof/Machine/Stack.lean ====
section
/-! DEFINITION. Machine/Stack.lean: push and pull, subroutines, BRK and RTI, jumps (R200 to R208). -/

namespace Sys2Proof.Machine

open Sys2Proof

/-- R200, implied, opcode 0x48. -/
def execPha (s : State) : Result := .next (s.push s.a)

/-- R201, implied, opcode 0x08. -/
def execPhp (s : State) : Result := .next (s.push s.flags.pushed)

/-- R202, implied, opcode 0x68. -/
def execPla (s : State) : Result := .next ((s.unpush.setA s.pulled).setNZ s.pulled)

/-- R203, implied, opcode 0x28. -/
def execPlp (s : State) : Result := .next (s.unpush.setFlags (Flags.ofByte s.pulled))

/-- R204, absolute, opcode 0x20. What is pushed is the pseudocode's `mod16(PC - 1)`, the address of the JSR's last byte, at
every address. The rule's corner case says 0x0001 of a JSR at 0xFFFD, where the pseudocode gives 0xFFFF: the model follows
the pseudocode and D8 (DESIGN CHOICE, log entry 13). -/
def execJsr (w : Word) (s : State) : Result := .next ((s.pushWord (s.pc - 1#16)).setPc (absolute w).ea)

/-- R205, implied, opcode 0x60. -/
def execRts (s : State) : Result := .next (s.unpushWord.setPc (s.pulledWord + 1#16))

/-- R206, implied, opcode 0x40. -/
def execRti (s : State) : Result := .next (returnFromBreak s)

/-- R207, implied, opcode 0x00. -/
def execBrk (s : State) : Result := .next (takeBreak s)

/-- R208, absolute, opcode 0x4C. -/
def execJmpAbsolute (w : Word) (s : State) : Result := .next (s.setPc (absolute w).ea)

/-- R208, indirect, opcode 0x6C. -/
def execJmpIndirect (w : Word) (s : State) : Result := .next (s.setPc (indirect w s).ea)

end Sys2Proof.Machine
end

