-- ==== Sys2Proof/Machine/Dispatch.lean ====
section
/-! DEFINITION. Machine/Dispatch.lean: one arm per constructor of Instr (R129). `exec` runs after the fetch, with PC past
the instruction (R110). -/

namespace Sys2Proof.Machine

open Sys2Proof

def exec (i : Instr) (s : State) : Host.Outcome State Fault Refusal :=
  match i with
  | .adcImmediate v => Sys2Proof.Machine.execAdcImmediate v s
  | .adcZeropage z => Sys2Proof.Machine.execAdcZeropage z s
  | .adcZeropageX z => Sys2Proof.Machine.execAdcZeropageX z s
  | .adcAbsolute w => Sys2Proof.Machine.execAdcAbsolute w s
  | .adcAbsoluteX w => Sys2Proof.Machine.execAdcAbsoluteX w s
  | .adcAbsoluteY w => Sys2Proof.Machine.execAdcAbsoluteY w s
  | .adcXIndirect z => Sys2Proof.Machine.execAdcXIndirect z s
  | .adcIndirectY z => Sys2Proof.Machine.execAdcIndirectY z s
  | .sbcImmediate v => Sys2Proof.Machine.execSbcImmediate v s
  | .sbcZeropage z => Sys2Proof.Machine.execSbcZeropage z s
  | .sbcZeropageX z => Sys2Proof.Machine.execSbcZeropageX z s
  | .sbcAbsolute w => Sys2Proof.Machine.execSbcAbsolute w s
  | .sbcAbsoluteX w => Sys2Proof.Machine.execSbcAbsoluteX w s
  | .sbcAbsoluteY w => Sys2Proof.Machine.execSbcAbsoluteY w s
  | .sbcXIndirect z => Sys2Proof.Machine.execSbcXIndirect z s
  | .sbcIndirectY z => Sys2Proof.Machine.execSbcIndirectY z s
  | .andImmediate v => Sys2Proof.Machine.execAndImmediate v s
  | .andZeropage z => Sys2Proof.Machine.execAndZeropage z s
  | .andZeropageX z => Sys2Proof.Machine.execAndZeropageX z s
  | .andAbsolute w => Sys2Proof.Machine.execAndAbsolute w s
  | .andAbsoluteX w => Sys2Proof.Machine.execAndAbsoluteX w s
  | .andAbsoluteY w => Sys2Proof.Machine.execAndAbsoluteY w s
  | .andXIndirect z => Sys2Proof.Machine.execAndXIndirect z s
  | .andIndirectY z => Sys2Proof.Machine.execAndIndirectY z s
  | .oraImmediate v => Sys2Proof.Machine.execOraImmediate v s
  | .oraZeropage z => Sys2Proof.Machine.execOraZeropage z s
  | .oraZeropageX z => Sys2Proof.Machine.execOraZeropageX z s
  | .oraAbsolute w => Sys2Proof.Machine.execOraAbsolute w s
  | .oraAbsoluteX w => Sys2Proof.Machine.execOraAbsoluteX w s
  | .oraAbsoluteY w => Sys2Proof.Machine.execOraAbsoluteY w s
  | .oraXIndirect z => Sys2Proof.Machine.execOraXIndirect z s
  | .oraIndirectY z => Sys2Proof.Machine.execOraIndirectY z s
  | .eorImmediate v => Sys2Proof.Machine.execEorImmediate v s
  | .eorZeropage z => Sys2Proof.Machine.execEorZeropage z s
  | .eorZeropageX z => Sys2Proof.Machine.execEorZeropageX z s
  | .eorAbsolute w => Sys2Proof.Machine.execEorAbsolute w s
  | .eorAbsoluteX w => Sys2Proof.Machine.execEorAbsoluteX w s
  | .eorAbsoluteY w => Sys2Proof.Machine.execEorAbsoluteY w s
  | .eorXIndirect z => Sys2Proof.Machine.execEorXIndirect z s
  | .eorIndirectY z => Sys2Proof.Machine.execEorIndirectY z s
  | .aslZeropage z => Sys2Proof.Machine.execAslZeropage z s
  | .aslZeropageX z => Sys2Proof.Machine.execAslZeropageX z s
  | .aslAbsolute w => Sys2Proof.Machine.execAslAbsolute w s
  | .aslAbsoluteX w => Sys2Proof.Machine.execAslAbsoluteX w s
  | .aslAccumulator => Sys2Proof.Machine.execAslAccumulator s
  | .lsrZeropage z => Sys2Proof.Machine.execLsrZeropage z s
  | .lsrZeropageX z => Sys2Proof.Machine.execLsrZeropageX z s
  | .lsrAbsolute w => Sys2Proof.Machine.execLsrAbsolute w s
  | .lsrAbsoluteX w => Sys2Proof.Machine.execLsrAbsoluteX w s
  | .lsrAccumulator => Sys2Proof.Machine.execLsrAccumulator s
  | .rolZeropage z => Sys2Proof.Machine.execRolZeropage z s
  | .rolZeropageX z => Sys2Proof.Machine.execRolZeropageX z s
  | .rolAbsolute w => Sys2Proof.Machine.execRolAbsolute w s
  | .rolAbsoluteX w => Sys2Proof.Machine.execRolAbsoluteX w s
  | .rolAccumulator => Sys2Proof.Machine.execRolAccumulator s
  | .rorZeropage z => Sys2Proof.Machine.execRorZeropage z s
  | .rorZeropageX z => Sys2Proof.Machine.execRorZeropageX z s
  | .rorAbsolute w => Sys2Proof.Machine.execRorAbsolute w s
  | .rorAbsoluteX w => Sys2Proof.Machine.execRorAbsoluteX w s
  | .rorAccumulator => Sys2Proof.Machine.execRorAccumulator s
  | .cmpImmediate v => Sys2Proof.Machine.execCmpImmediate v s
  | .cmpZeropage z => Sys2Proof.Machine.execCmpZeropage z s
  | .cmpZeropageX z => Sys2Proof.Machine.execCmpZeropageX z s
  | .cmpAbsolute w => Sys2Proof.Machine.execCmpAbsolute w s
  | .cmpAbsoluteX w => Sys2Proof.Machine.execCmpAbsoluteX w s
  | .cmpAbsoluteY w => Sys2Proof.Machine.execCmpAbsoluteY w s
  | .cmpXIndirect z => Sys2Proof.Machine.execCmpXIndirect z s
  | .cmpIndirectY z => Sys2Proof.Machine.execCmpIndirectY z s
  | .cpxImmediate v => Sys2Proof.Machine.execCpxImmediate v s
  | .cpxZeropage z => Sys2Proof.Machine.execCpxZeropage z s
  | .cpxAbsolute w => Sys2Proof.Machine.execCpxAbsolute w s
  | .cpyImmediate v => Sys2Proof.Machine.execCpyImmediate v s
  | .cpyZeropage z => Sys2Proof.Machine.execCpyZeropage z s
  | .cpyAbsolute w => Sys2Proof.Machine.execCpyAbsolute w s
  | .bitZeropage z => Sys2Proof.Machine.execBitZeropage z s
  | .bitAbsolute w => Sys2Proof.Machine.execBitAbsolute w s
  | .bcc d => Sys2Proof.Machine.execBcc d s
  | .bcs d => Sys2Proof.Machine.execBcs d s
  | .beq d => Sys2Proof.Machine.execBeq d s
  | .bne d => Sys2Proof.Machine.execBne d s
  | .bmi d => Sys2Proof.Machine.execBmi d s
  | .bpl d => Sys2Proof.Machine.execBpl d s
  | .bvc d => Sys2Proof.Machine.execBvc d s
  | .bvs d => Sys2Proof.Machine.execBvs d s
  | .incZeropage z => Sys2Proof.Machine.execIncZeropage z s
  | .incZeropageX z => Sys2Proof.Machine.execIncZeropageX z s
  | .incAbsolute w => Sys2Proof.Machine.execIncAbsolute w s
  | .incAbsoluteX w => Sys2Proof.Machine.execIncAbsoluteX w s
  | .decZeropage z => Sys2Proof.Machine.execDecZeropage z s
  | .decZeropageX z => Sys2Proof.Machine.execDecZeropageX z s
  | .decAbsolute w => Sys2Proof.Machine.execDecAbsolute w s
  | .decAbsoluteX w => Sys2Proof.Machine.execDecAbsoluteX w s
  | .inx => Sys2Proof.Machine.execInx s
  | .iny => Sys2Proof.Machine.execIny s
  | .dex => Sys2Proof.Machine.execDex s
  | .dey => Sys2Proof.Machine.execDey s
  | .ldaImmediate v => Sys2Proof.Machine.execLdaImmediate v s
  | .ldaZeropage z => Sys2Proof.Machine.execLdaZeropage z s
  | .ldaZeropageX z => Sys2Proof.Machine.execLdaZeropageX z s
  | .ldaAbsolute w => Sys2Proof.Machine.execLdaAbsolute w s
  | .ldaAbsoluteX w => Sys2Proof.Machine.execLdaAbsoluteX w s
  | .ldaAbsoluteY w => Sys2Proof.Machine.execLdaAbsoluteY w s
  | .ldaXIndirect z => Sys2Proof.Machine.execLdaXIndirect z s
  | .ldaIndirectY z => Sys2Proof.Machine.execLdaIndirectY z s
  | .ldxImmediate v => Sys2Proof.Machine.execLdxImmediate v s
  | .ldxZeropage z => Sys2Proof.Machine.execLdxZeropage z s
  | .ldxZeropageY z => Sys2Proof.Machine.execLdxZeropageY z s
  | .ldxAbsolute w => Sys2Proof.Machine.execLdxAbsolute w s
  | .ldxAbsoluteY w => Sys2Proof.Machine.execLdxAbsoluteY w s
  | .ldyImmediate v => Sys2Proof.Machine.execLdyImmediate v s
  | .ldyZeropage z => Sys2Proof.Machine.execLdyZeropage z s
  | .ldyZeropageX z => Sys2Proof.Machine.execLdyZeropageX z s
  | .ldyAbsolute w => Sys2Proof.Machine.execLdyAbsolute w s
  | .ldyAbsoluteX w => Sys2Proof.Machine.execLdyAbsoluteX w s
  | .tax => Sys2Proof.Machine.execTax s
  | .tay => Sys2Proof.Machine.execTay s
  | .txa => Sys2Proof.Machine.execTxa s
  | .tya => Sys2Proof.Machine.execTya s
  | .tsx => Sys2Proof.Machine.execTsx s
  | .txs => Sys2Proof.Machine.execTxs s
  | .staZeropage z => Sys2Proof.Machine.execStaZeropage z s
  | .staZeropageX z => Sys2Proof.Machine.execStaZeropageX z s
  | .staAbsolute w => Sys2Proof.Machine.execStaAbsolute w s
  | .staAbsoluteX w => Sys2Proof.Machine.execStaAbsoluteX w s
  | .staAbsoluteY w => Sys2Proof.Machine.execStaAbsoluteY w s
  | .staXIndirect z => Sys2Proof.Machine.execStaXIndirect z s
  | .staIndirectY z => Sys2Proof.Machine.execStaIndirectY z s
  | .stxZeropage z => Sys2Proof.Machine.execStxZeropage z s
  | .stxZeropageY z => Sys2Proof.Machine.execStxZeropageY z s
  | .stxAbsolute w => Sys2Proof.Machine.execStxAbsolute w s
  | .styZeropage z => Sys2Proof.Machine.execStyZeropage z s
  | .styZeropageX z => Sys2Proof.Machine.execStyZeropageX z s
  | .styAbsolute w => Sys2Proof.Machine.execStyAbsolute w s
  | .pha => Sys2Proof.Machine.execPha s
  | .php => Sys2Proof.Machine.execPhp s
  | .pla => Sys2Proof.Machine.execPla s
  | .plp => Sys2Proof.Machine.execPlp s
  | .jsr w => Sys2Proof.Machine.execJsr w s
  | .rts => Sys2Proof.Machine.execRts s
  | .rti => Sys2Proof.Machine.execRti s
  | .brk => Sys2Proof.Machine.execBrk s
  | .jmpAbsolute w => Sys2Proof.Machine.execJmpAbsolute w s
  | .jmpIndirect w => Sys2Proof.Machine.execJmpIndirect w s
  | .sec => Sys2Proof.Machine.execSec s
  | .clc => Sys2Proof.Machine.execClc s
  | .sei => Sys2Proof.Machine.execSei s
  | .cli => Sys2Proof.Machine.execCli s
  | .sed => Sys2Proof.Machine.execSed s
  | .cld => Sys2Proof.Machine.execCld s
  | .clv => Sys2Proof.Machine.execClv s
  | .nop => Sys2Proof.Machine.execNop s

end Sys2Proof.Machine
end

