-- ==== Sys2Proof/Machine/Step.lean ====
section
/-! DEFINITION. Machine/Step.lean: one `step()` (R110). -/

namespace Sys2Proof.Machine

open Sys2Proof

/-- R110: a halted engine does nothing (R235); otherwise the instruction at PC is fetched and decoded, PC moves past it,
it executes, and its cost is charged; a byte with no table entry halts the engine (R231). -/
def step (s : State) : Host.Outcome State Fault Refusal :=
  match s.run with
  | .halted => .next s
  | .running =>
    match decode (fetchBytes s) with
    | .error _ => .next (haltInvalidOpcode s)
    | .ok (i, _) => charge (cost i (fetched (instrLength i) s)) (exec i (fetched (instrLength i) s))

/-- The host's placing of an instruction where `step` fetches its next one (log entry 6). -/
def State.withFetchWord (s : State) (nbits w : Nat) : State := placeAtPc s nbits w

end Sys2Proof.Machine
end

