-- ==== Sys2Proof/Safety.lean ====
section
/-! DEFINITION. Safety.lean: what a safe run is (R256), and the invariant every state of a run meets. -/

namespace Sys2Proof.Machine

open Sys2Proof

/-- R42: `err = None` exactly when `run = Running`. -/
def State.errMatchesRun (s : State) : Bool := decide (s.err = none) == decide (s.run = .running)

/-- The invariant of the machine: memory is in canonical form (so it holds 65,536 bytes at most, each once), and the
error record agrees with the engine's state (R42). -/
def State.inv (s : State) : Bool := s.mem.wf && s.errMatchesRun

/-- R256: a Halted state is a fault and is never the successful end of a run. -/
def State.safe (s : State) : Bool := decide (s.run = .running)

/-- R256: the run of `k` steps from `s` leaves the engine Running. -/
def runsSafely (k : Nat) (s : State) : Bool :=
  match Sys2Proof.core.run k s with
  | .next t => State.safe t
  | .fault _ => false
  | .refused _ => false

end Sys2Proof.Machine
end

