-- ==== Sys2Proof/Certificates/Slice0/Obligations.lean ====
section
/-! DEFINITION. Certificates/Slice0/Obligations.lean: the statements for the provers, and the vocabulary they are written
in. Results are said in numbers (`toNat`) and not with the model's own flag computations; an effective address is said
with the model's resolver, whose own rules are stated apart (ZeropageModes, IndexedModes, IndirectModes). -/

namespace Sys2Proof.Claims

open Sys2Proof Sys2Proof.Machine

/-! ### Vocabulary: instruction forms

`On<Mode> op make P` says that the instruction `make operand` has the opcode byte `op` for every operand, and that `P`
holds of it and of its datum or effective address. -/

/-- The forms of immediate mode, with the datum. -/
def OnImmediate (op : Byte) (make : Byte → Instr) (P : Instr → Byte → Prop) : Prop :=
  ∀ v, opcodeOf (make v) = op ∧ P (make v) v

/-- The forms of zeropage mode, with the effective address. -/
def OnZeropage (op : Byte) (make : Byte → Instr) (P : Instr → Word → Prop) : Prop :=
  ∀ z, opcodeOf (make z) = op ∧ P (make z) (zeropage z).ea

/-- zeropage_x. -/
def OnZeropageX (s : State) (op : Byte) (make : Byte → Instr) (P : Instr → Word → Prop) : Prop :=
  ∀ z, opcodeOf (make z) = op ∧ P (make z) (zeropageX z s).ea

/-- zeropage_y. -/
def OnZeropageY (s : State) (op : Byte) (make : Byte → Instr) (P : Instr → Word → Prop) : Prop :=
  ∀ z, opcodeOf (make z) = op ∧ P (make z) (zeropageY z s).ea

/-- absolute. -/
def OnAbsolute (op : Byte) (make : Word → Instr) (P : Instr → Word → Prop) : Prop :=
  ∀ w, opcodeOf (make w) = op ∧ P (make w) (absolute w).ea

/-- absolute_x. -/
def OnAbsoluteX (s : State) (op : Byte) (make : Word → Instr) (P : Instr → Word → Prop) : Prop :=
  ∀ w, opcodeOf (make w) = op ∧ P (make w) (absoluteX w s).ea

/-- absolute_y. -/
def OnAbsoluteY (s : State) (op : Byte) (make : Word → Instr) (P : Instr → Word → Prop) : Prop :=
  ∀ w, opcodeOf (make w) = op ∧ P (make w) (absoluteY w s).ea

/-- x_indirect. -/
def OnXIndirect (s : State) (op : Byte) (make : Byte → Instr) (P : Instr → Word → Prop) : Prop :=
  ∀ z, opcodeOf (make z) = op ∧ P (make z) (xIndirect z s).ea

/-- indirect_y. -/
def OnIndirectY (s : State) (op : Byte) (make : Byte → Instr) (P : Instr → Word → Prop) : Prop :=
  ∀ z, opcodeOf (make z) = op ∧ P (make z) (indirectY z s).ea

/-- `P` of the byte at an effective address. -/
def AtByte (s : State) (P : Instr → Byte → Prop) (i : Instr) (ea : Word) : Prop := P i (s.read ea)

/-! ### Vocabulary: results -/

/-- The flags with N and Z set from a byte: bit 7, and whether it is zero. -/
def nz (f : Flags) (r : Byte) : Flags := { f with n := decide (128 ≤ r.toNat), z := decide (r.toNat = 0) }

/-- The exact sum of A, a byte and C. -/
def sum (s : State) (m : Byte) : Nat := s.a.toNat + m.toNat + s.flags.c.toNat

/-- R140's next state: A and N, V, Z, C of `A + M + C`. V: "iff operand and accumulator have the same sign and the
result's sign differs". -/
def AdcNext (s : State) (i : Instr) (m : Byte) : Prop :=
  exec i s = .next
    { s with
      a := BitVec.ofNat 8 (sum s m)
      flags :=
        { s.flags with
          n := decide (128 ≤ sum s m % 256)
          v := decide ((128 ≤ s.a.toNat ↔ 128 ≤ m.toNat) ∧ ¬(128 ≤ s.a.toNat ↔ 128 ≤ sum s m % 256))
          z := decide (sum s m % 256 = 0)
          c := decide (256 ≤ sum s m) } }

/-- The exact difference of A and a byte and the borrow `1 - C`, plus 256. -/
def difference (s : State) (m : Byte) : Nat := s.a.toNat + 256 - m.toNat - (1 - s.flags.c.toNat)

/-- R141's next state: A and N, V, Z, C of `A - M - (1 - C)`. C is 1 iff there is no borrow; V is 1 exactly when A and M
have different signs and the result's sign differs from A's. -/
def SbcNext (s : State) (i : Instr) (m : Byte) : Prop :=
  exec i s = .next
    { s with
      a := BitVec.ofNat 8 (difference s m)
      flags :=
        { s.flags with
          n := decide (128 ≤ difference s m % 256)
          v := decide (¬(128 ≤ s.a.toNat ↔ 128 ≤ m.toNat) ∧ ¬(128 ≤ s.a.toNat ↔ 128 ≤ difference s m % 256))
          z := decide (difference s m % 256 = 0)
          c := decide (m.toNat + (1 - s.flags.c.toNat) ≤ s.a.toNat) } }

/-- A next state in which A is `r` and N, Z are set from it, and nothing else changes. -/
def LoadsA (s : State) (i : Instr) (r : Byte) : Prop := exec i s = .next { s with a := r, flags := nz s.flags r }

/-- The same of X. -/
def LoadsX (s : State) (i : Instr) (r : Byte) : Prop := exec i s = .next { s with x := r, flags := nz s.flags r }

/-- The same of Y. -/
def LoadsY (s : State) (i : Instr) (r : Byte) : Prop := exec i s = .next { s with y := r, flags := nz s.flags r }

/-- R149's next state, of the register value `reg`: C, Z, N of an unsigned comparison, and nothing else. -/
def CompareNext (reg : Byte) (s : State) (i : Instr) (m : Byte) : Prop :=
  exec i s = .next
    { s with
      flags :=
        { s.flags with
          c := decide (m.toNat ≤ reg.toNat)
          z := decide (reg.toNat = m.toNat)
          n := decide (128 ≤ (reg.toNat + 256 - m.toNat) % 256) } }

/-- R152's next state: N and V from the byte, Z from `A & M`. -/
def BitNext (s : State) (i : Instr) (m : Byte) : Prop :=
  exec i s = .next
    { s with
      flags :=
        { s.flags with
          n := decide (128 ≤ m.toNat)
          v := decide (64 ≤ m.toNat % 128)
          z := decide (s.a &&& m = 0#8) } }

/-- A next state in which the byte at `ea` is `v`, the flags are `f`, and no other byte and no other field changes. -/
def StoresNext (s : State) (i : Instr) (ea : Word) (v : Byte) (f : Flags) : Prop :=
  ∃ t, exec i s = .next t ∧ (∀ b, t.read b = if b = ea then v else s.read b) ∧
    t = { s with mem := t.mem, flags := f }

/-- A shift or rotate of the byte at `ea`: `value` of the old carry and byte, and the carry from the old byte. -/
def ShiftsByte (value : Nat → Nat → Nat) (carry : Nat → Prop) [DecidablePred carry] (s : State) (i : Instr) (ea : Word) :
    Prop :=
  StoresNext s i ea (BitVec.ofNat 8 (value s.flags.c.toNat (s.read ea).toNat))
    { nz s.flags (BitVec.ofNat 8 (value s.flags.c.toNat (s.read ea).toNat)) with c := decide (carry (s.read ea).toNat) }

/-- The same of the accumulator; no byte of memory changes. -/
def ShiftsA (value : Nat → Nat → Nat) (carry : Nat → Prop) [DecidablePred carry] (s : State) (i : Instr) : Prop :=
  exec i s = .next
    { s with
      a := BitVec.ofNat 8 (value s.flags.c.toNat s.a.toNat)
      flags :=
        { nz s.flags (BitVec.ofNat 8 (value s.flags.c.toNat s.a.toNat)) with c := decide (carry s.a.toNat) } }

/-- The five forms of a shift or rotate. -/
def ShiftForms (accOp zpOp zpxOp absOp absxOp : Byte) (acc : Instr) (zp zpx : Byte → Instr) (abs absx : Word → Instr)
    (value : Nat → Nat → Nat) (carry : Nat → Prop) [DecidablePred carry] (s : State) : Prop :=
  (opcodeOf acc = accOp ∧ ShiftsA value carry s acc) ∧
  OnZeropage zpOp zp (ShiftsByte value carry s) ∧
  OnZeropageX s zpxOp zpx (ShiftsByte value carry s) ∧
  OnAbsolute absOp abs (ShiftsByte value carry s) ∧
  OnAbsoluteX s absxOp absx (ShiftsByte value carry s)

/-- A count by one of the byte at `ea`: N and Z from the result, C untouched. -/
def CountsByte (step : Nat) (s : State) (i : Instr) (ea : Word) : Prop :=
  StoresNext s i ea (BitVec.ofNat 8 ((s.read ea).toNat + step))
    (nz s.flags (BitVec.ofNat 8 ((s.read ea).toNat + step)))

/-- A store of a register's byte at `ea`, no flag changed. -/
def Stores (v : Byte) (s : State) (i : Instr) (ea : Word) : Prop := StoresNext s i ea v s.flags

/-- R160: a branch's next state: PC is `mod16(PC + d)` if it is taken, and nothing else changes. -/
def BranchNext (taken : Prop) [Decidable taken] (s : State) (i : Instr) (d : Int) : Prop :=
  ∃ t, exec i s = .next t ∧ (t.pc.toNat : Int) = (if taken then (s.pc.toNat + d) % 65536 else s.pc.toNat) ∧
    t = { s with pc := t.pc }

/-- The forms of a branch. -/
def OnRelative (op : Byte) (make : Int → Instr) (P : Instr → Int → Prop) : Prop :=
  ∀ d, opcodeOf (make d) = op ∧ P (make d) d

/-- R36, R201: the status byte as PHP and BRK push it, N V 1 1 D I Z C from bit 7 down. -/
def pushedStatus (f : Flags) : Byte :=
  BitVec.ofNat 8
    (128 * f.n.toNat + 64 * f.v.toNat + 32 + 16 + 8 * f.d.toNat + 4 * f.i.toNat + 2 * f.z.toNat + f.c.toNat)

/-- R37: the flags in a status byte; bit 5 is ignored. -/
def flagsIn (v : Byte) : Flags :=
  { n := decide (v.toNat / 128 % 2 = 1), v := decide (v.toNat / 64 % 2 = 1), b := decide (v.toNat / 16 % 2 = 1)
    d := decide (v.toNat / 8 % 2 = 1), i := decide (v.toNat / 4 % 2 = 1), z := decide (v.toNat / 2 % 2 = 1)
    c := decide (v.toNat % 2 = 1) }

/-- The address of the stack byte `k` places above the byte SP names, SP wrapping within 8 bits. -/
def above (s : State) (k : Nat) : Word := stackAddr (s.sp + BitVec.ofNat 8 k)

/-- The address `k` places below. -/
def below (s : State) (k : Nat) : Word := stackAddr (s.sp - BitVec.ofNat 8 k)

/-- The little-endian number of two bytes. -/
def number (lo hi : Byte) : Nat := lo.toNat + 256 * hi.toNat

/-- The little-endian number of the zero-page pointer at `z`, whose second byte wraps in the zero page (R17, R61). -/
def pointer (s : State) (z : Byte) : Nat :=
  number (s.read (BitVec.ofNat 16 z.toNat)) (s.read (BitVec.ofNat 16 ((z.toNat + 1) % 256)))

/-! ### Vocabulary: whole-machine statements -/

/-- R95: the 105 bytes with no instruction-table entry, as the rule lists them. -/
def invalidBytes : List Byte :=
  [0x02#8, 0x03#8, 0x04#8, 0x07#8, 0x0B#8, 0x0C#8, 0x0F#8, 0x12#8, 0x13#8, 0x14#8, 0x17#8, 0x1A#8, 0x1B#8, 0x1C#8,
    0x1F#8, 0x22#8, 0x23#8, 0x27#8, 0x2B#8, 0x2F#8, 0x32#8, 0x33#8, 0x34#8, 0x37#8, 0x3A#8, 0x3B#8, 0x3C#8, 0x3F#8] ++
  [0x42#8, 0x43#8, 0x44#8, 0x47#8, 0x4B#8, 0x4F#8, 0x52#8, 0x53#8, 0x54#8, 0x57#8, 0x5A#8, 0x5B#8, 0x5C#8, 0x5F#8,
    0x62#8, 0x63#8, 0x64#8, 0x67#8, 0x6B#8, 0x6F#8, 0x72#8, 0x73#8, 0x74#8, 0x77#8, 0x7A#8, 0x7B#8, 0x7C#8, 0x7F#8] ++
  [0x80#8, 0x82#8, 0x83#8, 0x87#8, 0x89#8, 0x8B#8, 0x8F#8, 0x92#8, 0x93#8, 0x97#8, 0x9B#8, 0x9C#8, 0x9E#8, 0x9F#8,
    0xA3#8, 0xA7#8, 0xAB#8, 0xAF#8, 0xB2#8, 0xB3#8, 0xB7#8, 0xBB#8, 0xBF#8] ++
  [0xC2#8, 0xC3#8, 0xC7#8, 0xCB#8, 0xCF#8, 0xD2#8, 0xD3#8, 0xD4#8, 0xD7#8, 0xDA#8, 0xDB#8, 0xDC#8, 0xDF#8, 0xE2#8,
    0xE3#8, 0xE7#8, 0xEB#8, 0xEF#8, 0xF2#8, 0xF3#8, 0xF4#8, 0xF7#8, 0xFA#8, 0xFB#8, 0xFC#8, 0xFF#8]

/-- The effective address of an operand in memory, by the model's resolver; none for an operand that has no address. -/
def operandAddrs (s : State) : Mode → Arg → List Word
  | .zeropage, .byte z => [(zeropage z).ea]
  | .zeropageX, .byte z => [(zeropageX z s).ea]
  | .zeropageY, .byte z => [(zeropageY z s).ea]
  | .absolute, .word w => [(absolute w).ea]
  | .absoluteX, .word w => [(absoluteX w s).ea]
  | .absoluteY, .word w => [(absoluteY w s).ea]
  | .xIndirect, .byte z => [(xIndirect z s).ea]
  | .indirectY, .byte z => [(indirectY z s).ea]
  | _, _ => []

/-- R128: the addresses an instruction stores to: the effective address of a store or of a read-modify-write (none in
accumulator mode), the stack bytes of a push; every other instruction stores nothing. -/
def storedAddrs (i : Instr) (s : State) : List Word :=
  if i.mnemonic ∈ [.sta, .stx, .sty, .asl, .lsr, .rol, .ror, .inc, .dec] then operandAddrs s i.mode i.arg
  else if i.mnemonic ∈ [.pha, .php] then [below s 0]
  else if i.mnemonic = .jsr then [below s 0, below s 1]
  else if i.mnemonic = .brk then [below s 0, below s 1, below s 2]
  else []

/-- R38: the writers of N and of Z. -/
def writersOfNZ : List Mnemonic :=
  [.adc, .sbc, .and, .ora, .eor, .asl, .lsr, .rol, .ror, .cmp, .cpx, .cpy, .bit, .inc, .dec, .inx, .iny, .dex, .dey,
    .lda, .ldx, .ldy, .tax, .tay, .txa, .tya, .tsx, .pla, .plp, .rti]
/-- R38: the writers of V. -/
def writersOfV : List Mnemonic := [.adc, .sbc, .bit, .clv, .plp, .rti]
/-- R38: the writers of B. -/
def writersOfB : List Mnemonic := [.brk, .plp, .rti]
/-- R38: the writers of D. -/
def writersOfD : List Mnemonic := [.sed, .cld, .plp, .rti]
/-- R38: the writers of I. -/
def writersOfI : List Mnemonic := [.sei, .cli, .brk, .plp, .rti]
/-- R38: the writers of C. -/
def writersOfC : List Mnemonic :=
  [.adc, .sbc, .asl, .lsr, .rol, .ror, .cmp, .cpx, .cpy, .sec, .clc, .plp, .rti]

/-- R32: the writers of A, and ASL LSR ROL ROR in accumulator mode. -/
def writersOfA : List Mnemonic := [.adc, .sbc, .and, .ora, .eor, .lda, .txa, .tya, .pla]
/-- R33: the writers of X. -/
def writersOfX : List Mnemonic := [.ldx, .tax, .tsx, .dex, .inx]
/-- R33: the writers of Y. -/
def writersOfY : List Mnemonic := [.ldy, .tay, .dey, .iny]
/-- R34: the writers of SP. -/
def writersOfSp : List Mnemonic := [.pha, .php, .pla, .plp, .jsr, .rts, .rti, .brk, .txs]
/-- R35: the control-transfer instructions. -/
def controlTransfers : List Mnemonic :=
  [.bcc, .bcs, .beq, .bne, .bmi, .bpl, .bvc, .bvs, .jsr, .rts, .rti, .brk, .jmp]

/-- R275: the base cycle count, by the rows and columns of the rule's table. -/
def cyclesOf (mn : Mnemonic) (mode : Mode) : Nat :=
  let rmw := mn ∈ [.asl, .lsr, .rol, .ror, .inc, .dec]
  match mode with
  | .immediate => 2
  | .zeropage => if rmw then 5 else 3
  | .zeropageX => if rmw then 6 else 4
  | .zeropageY => 4
  | .absolute => if rmw ∨ mn = .jsr then 6 else if mn = .jmp then 3 else 4
  | .absoluteX => if rmw then 7 else if mn = .sta then 5 else 4
  | .absoluteY => if mn = .sta then 5 else 4
  | .indirect => 5
  | .xIndirect => 6
  | .indirectY => if mn = .sta then 6 else 5
  | .relative => 2
  | .accumulator => 2
  | .implied =>
    if mn = .brk then 7 else if mn ∈ [.rts, .rti] then 6 else if mn ∈ [.pla, .plp] then 4
    else if mn ∈ [.pha, .php] then 3 else 2

/-- R131: the opcodes of the page-cross penalty, by mnemonic and mode. -/
def paysOnCross (mn : Mnemonic) (mode : Mode) : Prop :=
  (mn ∈ [.adc, .and, .cmp, .eor, .lda, .ora, .sbc] ∧ mode ∈ [.absoluteX, .absoluteY, .indirectY]) ∨
    (mn = .ldx ∧ mode = .absoluteY) ∨ (mn = .ldy ∧ mode = .absoluteX)

/-- R125: the index carries out of the low byte of the 16-bit base. -/
def crosses (s : State) : Mode → Arg → Prop
  | .absoluteX, .word w => 256 ≤ w.toNat % 256 + s.x.toNat
  | .absoluteY, .word w => 256 ≤ w.toNat % 256 + s.y.toNat
  | .indirectY, .byte z => 256 ≤ (s.read (z.setWidth 16)).toNat + s.y.toNat
  | _, _ => False

/-- R131, R160: a branch's penalty: 0 not taken, 1 taken to the same page, 2 taken across a page. -/
def branchCycles (taken : Prop) [Decidable taken] (s : State) (d : Int) : Nat :=
  if taken then if (s.pc.toNat : Int) / 256 = ((s.pc.toNat : Int) + d) % 65536 / 256 then 1 else 2 else 0

/-- The state with another stored B. -/
def withB (s : State) (b : Bool) : State := { s with flags := { s.flags with b := b } }

end Sys2Proof.Claims

open Sys2Proof Sys2Proof.Machine Sys2Proof.Claims

/-! ### Encoding -/

/-- 30_encoding.md R92, R93: words written out from the opcode map, one or more of each family, decode to the
instructions they stand for, and two bytes with no entry are rejected by name. -/
def Obligations.SampleWordsDecode : Prop :=
  decode [0x69#8, 0x50#8] = .ok (.adcImmediate 0x50#8, []) ∧
  decode [0x1D#8, 0x34#8, 0x12#8] = .ok (.oraAbsoluteX 0x1234#16, []) ∧
  decode [0x6A#8, 0xEA#8] = .ok (.rorAccumulator, [0xEA#8]) ∧
  decode [0xF0#8, 0xFE#8] = .ok (.beq (-2), []) ∧
  decode [0xD6#8, 0xFF#8] = .ok (.decZeropageX 0xFF#8, []) ∧
  decode [0xB1#8, 0x40#8] = .ok (.ldaIndirectY 0x40#8, []) ∧
  decode [0x96#8, 0xFF#8] = .ok (.stxZeropageY 0xFF#8, []) ∧
  decode [0x81#8, 0xFF#8] = .ok (.staXIndirect 0xFF#8, []) ∧
  decode [0x20#8, 0x00#8, 0x90#8] = .ok (.jsr 0x9000#16, []) ∧
  decode [0x6C#8, 0xFF#8, 0x10#8] = .ok (.jmpIndirect 0x10FF#16, []) ∧
  decode [0x00#8, 0xEA#8] = .ok (.brk, [0xEA#8]) ∧
  decode [0xB8#8] = .ok (.clv, []) ∧
  decode [0xEB#8, 0x01#8] = .error (.invalidOpcode 0xEB#8) ∧
  decode [0x80#8, 0x01#8] = .error (.invalidOpcode 0x80#8)

/-- 30_encoding.md: decode and encode agree, for every well-formed instruction and every operand. -/
def Obligations.DecodeEncodeRoundTrip : Prop :=
  ∀ (i : Instr) (rest : List Byte), i.wellFormed = true → decode (encode i ++ rest) = .ok (i, rest)

/-- 30_encoding.md: what decodes is well-formed and its encoding is the bytes it was read from, so no two byte sequences
mean the same instruction. -/
def Obligations.DecodedBytesAreTheEncoding : Prop :=
  ∀ (bs rest : List Byte) (i : Instr), decode bs = .ok (i, rest) → i.wellFormed = true ∧ bs = encode i ++ rest

/-- R97: the table is consistent (151 rows, no byte twice, each row found under its own byte, whatever is found is the
row of that byte), and the bytes with no row are exactly the 105 of R95, each of which fails with InvalidOpcode. -/
def Obligations.TableIsConsistent : Prop :=
  table.length = 151 ∧ (table.map Row.opcode).Nodup ∧
  (∀ r ∈ table, lookup r.opcode = some r) ∧
  (∀ op r, lookup op = some r → r.opcode = op ∧ r ∈ table) ∧
  ∀ (op : Byte) (rest : List Byte), decode (op :: rest) = .error (.invalidOpcode op) ↔ op ∈ invalidBytes

/-- R91: the opcode byte alone fixes mnemonic, mode and length, and the length is that of R90's formats. -/
def Obligations.LengthIsAFunctionOfTheOpcode : Prop :=
  ∀ (op : Byte) (bs bs' rest rest' : List Byte) (i j : Instr),
    decode (op :: bs) = .ok (i, rest) → decode (op :: bs') = .ok (j, rest') →
    i.mnemonic = j.mnemonic ∧ i.mode = j.mode ∧ (encode i).length = (encode j).length ∧
    (encode i).length =
      (if i.mode ∈ [.implied, .accumulator] then 1
       else if i.mode ∈ [.absolute, .absoluteX, .absoluteY, .indirect] then 3 else 2)

/-! ### Addressing modes -/

/-- R115, R116, R117: the zero-page modes stay in the zero page and never cross. -/
def Obligations.ZeropageModes : Prop :=
  ∀ (z : Byte) (s : State),
    ((zeropage z).ea.toNat = z.toNat ∧ (zeropage z).crossed = false) ∧
    ((zeropageX z s).ea.toNat = (z.toNat + s.x.toNat) % 256 ∧ (zeropageX z s).crossed = false) ∧
    ((zeropageY z s).ea.toNat = (z.toNat + s.y.toNat) % 256 ∧ (zeropageY z s).crossed = false)

/-- R118, R119, R120: the absolute modes carry into the high byte modulo 0x10000, and report a crossing exactly when the
index carries out of the base's low byte. -/
def Obligations.IndexedModes : Prop :=
  ∀ (w : Word) (s : State),
    ((absolute w).ea = w ∧ (absolute w).crossed = false) ∧
    ((absoluteX w s).ea.toNat = (w.toNat + s.x.toNat) % 65536 ∧
      (absoluteX w s).crossed = decide (256 ≤ w.toNat % 256 + s.x.toNat)) ∧
    ((absoluteY w s).ea.toNat = (w.toNat + s.y.toNat) % 65536 ∧
      (absoluteY w s).crossed = decide (256 ≤ w.toNat % 256 + s.y.toNat))

/-- R121, R122, R123: the pointer reads of the indirect modes, with both values of the open parameter. -/
def Obligations.IndirectModes : Prop :=
  ∀ (s : State) (w : Word) (z : Byte),
    ((indirect w s).ea.toNat =
        number (s.read w)
          (s.read (BitVec.ofNat 16
            (if s.cfg.jmpIndPageWrap = true then w.toNat / 256 * 256 + (w.toNat + 1) % 256 else w.toNat + 1))) ∧
      (indirect w s).crossed = false) ∧
    ((xIndirect z s).ea.toNat =
        number (s.read (BitVec.ofNat 16 ((z.toNat + s.x.toNat) % 256)))
          (s.read (BitVec.ofNat 16 ((z.toNat + s.x.toNat + 1) % 256))) ∧
      (xIndirect z s).crossed = false) ∧
    ((indirectY z s).ea.toNat = (pointer s z + s.y.toNat) % 65536 ∧
      (indirectY z s).crossed = decide (256 ≤ pointer s z % 256 + s.y.toNat))

/-! ### The status byte -/

/-- R36, R37: the serialised status byte, bit by bit, and the flags loaded from a byte. -/
def Obligations.StatusByteFormat : Prop :=
  ∀ (f : Flags) (v : Byte),
    f.toByte.toNat =
      128 * f.n.toNat + 64 * f.v.toNat + 32 + 16 * f.b.toNat + 8 * f.d.toNat + 4 * f.i.toNat + 2 * f.z.toNat +
        f.c.toNat ∧
    Flags.ofByte v = flagsIn v

/-! ### Instruction results: each says that exec answers a next state, which one, and that nothing else changes -/

/-- R140: ADC, its eight forms. -/
def Obligations.AdcResult : Prop :=
  ∀ s : State,
    OnImmediate 0x69#8 .adcImmediate (AdcNext s) ∧
    OnZeropage 0x65#8 .adcZeropage (AtByte s (AdcNext s)) ∧
    OnZeropageX s 0x75#8 .adcZeropageX (AtByte s (AdcNext s)) ∧
    OnAbsolute 0x6D#8 .adcAbsolute (AtByte s (AdcNext s)) ∧
    OnAbsoluteX s 0x7D#8 .adcAbsoluteX (AtByte s (AdcNext s)) ∧
    OnAbsoluteY s 0x79#8 .adcAbsoluteY (AtByte s (AdcNext s)) ∧
    OnXIndirect s 0x61#8 .adcXIndirect (AtByte s (AdcNext s)) ∧
    OnIndirectY s 0x71#8 .adcIndirectY (AtByte s (AdcNext s))

/-- R141: SBC, its eight forms. -/
def Obligations.SbcResult : Prop :=
  ∀ s : State,
    OnImmediate 0xE9#8 .sbcImmediate (SbcNext s) ∧
    OnZeropage 0xE5#8 .sbcZeropage (AtByte s (SbcNext s)) ∧
    OnZeropageX s 0xF5#8 .sbcZeropageX (AtByte s (SbcNext s)) ∧
    OnAbsolute 0xED#8 .sbcAbsolute (AtByte s (SbcNext s)) ∧
    OnAbsoluteX s 0xFD#8 .sbcAbsoluteX (AtByte s (SbcNext s)) ∧
    OnAbsoluteY s 0xF9#8 .sbcAbsoluteY (AtByte s (SbcNext s)) ∧
    OnXIndirect s 0xE1#8 .sbcXIndirect (AtByte s (SbcNext s)) ∧
    OnIndirectY s 0xF1#8 .sbcIndirectY (AtByte s (SbcNext s))

/-- 41_alu.md: V of ADC and SBC is exactly two's complement overflow, and A the exact signed result where V is 0. -/
def Obligations.OverflowIsSignedOverflow : Prop :=
  ∀ (s : State) (m : Byte),
    (∃ t, exec (.adcImmediate m) s = .next t ∧
      (t.flags.v = false ↔ t.a.toInt = s.a.toInt + m.toInt + s.flags.c.toNat)) ∧
    (∃ t, exec (.sbcImmediate m) s = .next t ∧
      (t.flags.v = false ↔ t.a.toInt = s.a.toInt - m.toInt - (1 - s.flags.c.toNat : Int)))

/-- R142, R143, R144: AND, ORA and EOR, their eight forms each. -/
def Obligations.LogicResults : Prop :=
  ∀ s : State,
    let andNext := fun i m => LoadsA s i (s.a &&& m)
    let oraNext := fun i m => LoadsA s i (s.a ||| m)
    let eorNext := fun i m => LoadsA s i (s.a ^^^ m)
    (OnImmediate 0x29#8 .andImmediate andNext ∧
      OnZeropage 0x25#8 .andZeropage (AtByte s andNext) ∧
      OnZeropageX s 0x35#8 .andZeropageX (AtByte s andNext) ∧
      OnAbsolute 0x2D#8 .andAbsolute (AtByte s andNext) ∧
      OnAbsoluteX s 0x3D#8 .andAbsoluteX (AtByte s andNext) ∧
      OnAbsoluteY s 0x39#8 .andAbsoluteY (AtByte s andNext) ∧
      OnXIndirect s 0x21#8 .andXIndirect (AtByte s andNext) ∧
      OnIndirectY s 0x31#8 .andIndirectY (AtByte s andNext)) ∧
    (OnImmediate 0x09#8 .oraImmediate oraNext ∧
      OnZeropage 0x05#8 .oraZeropage (AtByte s oraNext) ∧
      OnZeropageX s 0x15#8 .oraZeropageX (AtByte s oraNext) ∧
      OnAbsolute 0x0D#8 .oraAbsolute (AtByte s oraNext) ∧
      OnAbsoluteX s 0x1D#8 .oraAbsoluteX (AtByte s oraNext) ∧
      OnAbsoluteY s 0x19#8 .oraAbsoluteY (AtByte s oraNext) ∧
      OnXIndirect s 0x01#8 .oraXIndirect (AtByte s oraNext) ∧
      OnIndirectY s 0x11#8 .oraIndirectY (AtByte s oraNext)) ∧
    (OnImmediate 0x49#8 .eorImmediate eorNext ∧
      OnZeropage 0x45#8 .eorZeropage (AtByte s eorNext) ∧
      OnZeropageX s 0x55#8 .eorZeropageX (AtByte s eorNext) ∧
      OnAbsolute 0x4D#8 .eorAbsolute (AtByte s eorNext) ∧
      OnAbsoluteX s 0x5D#8 .eorAbsoluteX (AtByte s eorNext) ∧
      OnAbsoluteY s 0x59#8 .eorAbsoluteY (AtByte s eorNext) ∧
      OnXIndirect s 0x41#8 .eorXIndirect (AtByte s eorNext) ∧
      OnIndirectY s 0x51#8 .eorIndirectY (AtByte s eorNext))

/-- R145: ASL, its five forms: `(v << 1) & 0xFF`, C the old bit 7. -/
def Obligations.AslResult : Prop :=
  ∀ s : State,
    ShiftForms 0x0A#8 0x06#8 0x16#8 0x0E#8 0x1E#8 .aslAccumulator .aslZeropage .aslZeropageX .aslAbsolute .aslAbsoluteX
      (fun _ v => 2 * v) (fun v => 128 ≤ v) s

/-- R146: LSR, its five forms: `v >> 1`, C the old bit 0. -/
def Obligations.LsrResult : Prop :=
  ∀ s : State,
    ShiftForms 0x4A#8 0x46#8 0x56#8 0x4E#8 0x5E#8 .lsrAccumulator .lsrZeropage .lsrZeropageX .lsrAbsolute .lsrAbsoluteX
      (fun _ v => v / 2) (fun v => v % 2 = 1) s

/-- R147: ROL, its five forms: the old C enters bit 0, C the old bit 7. -/
def Obligations.RolResult : Prop :=
  ∀ s : State,
    ShiftForms 0x2A#8 0x26#8 0x36#8 0x2E#8 0x3E#8 .rolAccumulator .rolZeropage .rolZeropageX .rolAbsolute .rolAbsoluteX
      (fun c v => 2 * v + c) (fun v => 128 ≤ v) s

/-- R148: ROR, its five forms: the old C enters bit 7, C the old bit 0. -/
def Obligations.RorResult : Prop :=
  ∀ s : State,
    ShiftForms 0x6A#8 0x66#8 0x76#8 0x6E#8 0x7E#8 .rorAccumulator .rorZeropage .rorZeropageX .rorAbsolute .rorAbsoluteX
      (fun c v => v / 2 + 128 * c) (fun v => v % 2 = 1) s

/-- R149: CMP, its eight forms. -/
def Obligations.CmpResult : Prop :=
  ∀ s : State,
    OnImmediate 0xC9#8 .cmpImmediate (CompareNext s.a s) ∧
    OnZeropage 0xC5#8 .cmpZeropage (AtByte s (CompareNext s.a s)) ∧
    OnZeropageX s 0xD5#8 .cmpZeropageX (AtByte s (CompareNext s.a s)) ∧
    OnAbsolute 0xCD#8 .cmpAbsolute (AtByte s (CompareNext s.a s)) ∧
    OnAbsoluteX s 0xDD#8 .cmpAbsoluteX (AtByte s (CompareNext s.a s)) ∧
    OnAbsoluteY s 0xD9#8 .cmpAbsoluteY (AtByte s (CompareNext s.a s)) ∧
    OnXIndirect s 0xC1#8 .cmpXIndirect (AtByte s (CompareNext s.a s)) ∧
    OnIndirectY s 0xD1#8 .cmpIndirectY (AtByte s (CompareNext s.a s))

/-- R150, R151: CPX and CPY, their three forms each. -/
def Obligations.CpxCpyResults : Prop :=
  ∀ s : State,
    (OnImmediate 0xE0#8 .cpxImmediate (CompareNext s.x s) ∧
      OnZeropage 0xE4#8 .cpxZeropage (AtByte s (CompareNext s.x s)) ∧
      OnAbsolute 0xEC#8 .cpxAbsolute (AtByte s (CompareNext s.x s))) ∧
    (OnImmediate 0xC0#8 .cpyImmediate (CompareNext s.y s) ∧
      OnZeropage 0xC4#8 .cpyZeropage (AtByte s (CompareNext s.y s)) ∧
      OnAbsolute 0xCC#8 .cpyAbsolute (AtByte s (CompareNext s.y s)))

/-- R152: BIT, its two forms. -/
def Obligations.BitResult : Prop :=
  ∀ s : State,
    OnZeropage 0x24#8 .bitZeropage (AtByte s (BitNext s)) ∧ OnAbsolute 0x2C#8 .bitAbsolute (AtByte s (BitNext s))

/-- R161 to R168: each branch tests its own flag and polarity, and writes PC alone. -/
def Obligations.BranchResults : Prop :=
  ∀ s : State,
    OnRelative 0x90#8 .bcc (BranchNext (s.flags.c = false) s) ∧
    OnRelative 0xB0#8 .bcs (BranchNext (s.flags.c = true) s) ∧
    OnRelative 0xF0#8 .beq (BranchNext (s.flags.z = true) s) ∧
    OnRelative 0xD0#8 .bne (BranchNext (s.flags.z = false) s) ∧
    OnRelative 0x30#8 .bmi (BranchNext (s.flags.n = true) s) ∧
    OnRelative 0x10#8 .bpl (BranchNext (s.flags.n = false) s) ∧
    OnRelative 0x50#8 .bvc (BranchNext (s.flags.v = false) s) ∧
    OnRelative 0x70#8 .bvs (BranchNext (s.flags.v = true) s)

/-- R170, R171: INC and DEC, their four forms each; DEC adds 255 modulo 256. -/
def Obligations.IncDecMemoryResults : Prop :=
  ∀ s : State,
    (OnZeropage 0xE6#8 .incZeropage (CountsByte 1 s) ∧
      OnZeropageX s 0xF6#8 .incZeropageX (CountsByte 1 s) ∧
      OnAbsolute 0xEE#8 .incAbsolute (CountsByte 1 s) ∧
      OnAbsoluteX s 0xFE#8 .incAbsoluteX (CountsByte 1 s)) ∧
    (OnZeropage 0xC6#8 .decZeropage (CountsByte 255 s) ∧
      OnZeropageX s 0xD6#8 .decZeropageX (CountsByte 255 s) ∧
      OnAbsolute 0xCE#8 .decAbsolute (CountsByte 255 s) ∧
      OnAbsoluteX s 0xDE#8 .decAbsoluteX (CountsByte 255 s))

/-- R172 to R175: INX, INY, DEX and DEY. -/
def Obligations.IncDecRegisterResults : Prop :=
  ∀ s : State,
    (opcodeOf .inx = 0xE8#8 ∧ LoadsX s .inx (BitVec.ofNat 8 (s.x.toNat + 1))) ∧
    (opcodeOf .iny = 0xC8#8 ∧ LoadsY s .iny (BitVec.ofNat 8 (s.y.toNat + 1))) ∧
    (opcodeOf .dex = 0xCA#8 ∧ LoadsX s .dex (BitVec.ofNat 8 (s.x.toNat + 255))) ∧
    (opcodeOf .dey = 0x88#8 ∧ LoadsY s .dey (BitVec.ofNat 8 (s.y.toNat + 255)))

/-- R180, R181, R182: LDA, LDX and LDY, their eighteen forms. -/
def Obligations.LoadResults : Prop :=
  ∀ s : State,
    (OnImmediate 0xA9#8 .ldaImmediate (LoadsA s) ∧
      OnZeropage 0xA5#8 .ldaZeropage (AtByte s (LoadsA s)) ∧
      OnZeropageX s 0xB5#8 .ldaZeropageX (AtByte s (LoadsA s)) ∧
      OnAbsolute 0xAD#8 .ldaAbsolute (AtByte s (LoadsA s)) ∧
      OnAbsoluteX s 0xBD#8 .ldaAbsoluteX (AtByte s (LoadsA s)) ∧
      OnAbsoluteY s 0xB9#8 .ldaAbsoluteY (AtByte s (LoadsA s)) ∧
      OnXIndirect s 0xA1#8 .ldaXIndirect (AtByte s (LoadsA s)) ∧
      OnIndirectY s 0xB1#8 .ldaIndirectY (AtByte s (LoadsA s))) ∧
    (OnImmediate 0xA2#8 .ldxImmediate (LoadsX s) ∧
      OnZeropage 0xA6#8 .ldxZeropage (AtByte s (LoadsX s)) ∧
      OnZeropageY s 0xB6#8 .ldxZeropageY (AtByte s (LoadsX s)) ∧
      OnAbsolute 0xAE#8 .ldxAbsolute (AtByte s (LoadsX s)) ∧
      OnAbsoluteY s 0xBE#8 .ldxAbsoluteY (AtByte s (LoadsX s))) ∧
    (OnImmediate 0xA0#8 .ldyImmediate (LoadsY s) ∧
      OnZeropage 0xA4#8 .ldyZeropage (AtByte s (LoadsY s)) ∧
      OnZeropageX s 0xB4#8 .ldyZeropageX (AtByte s (LoadsY s)) ∧
      OnAbsolute 0xAC#8 .ldyAbsolute (AtByte s (LoadsY s)) ∧
      OnAbsoluteX s 0xBC#8 .ldyAbsoluteX (AtByte s (LoadsY s)))

/-- R183 to R188: the register transfers; TXS sets no flag. -/
def Obligations.TransferResults : Prop :=
  ∀ s : State,
    (opcodeOf .tax = 0xAA#8 ∧ LoadsX s .tax s.a) ∧
    (opcodeOf .tay = 0xA8#8 ∧ LoadsY s .tay s.a) ∧
    (opcodeOf .txa = 0x8A#8 ∧ LoadsA s .txa s.x) ∧
    (opcodeOf .tya = 0x98#8 ∧ LoadsA s .tya s.y) ∧
    (opcodeOf .tsx = 0xBA#8 ∧ LoadsX s .tsx s.sp) ∧
    (opcodeOf .txs = 0x9A#8 ∧ exec .txs s = .next { s with sp := s.x })

/-- R189, R190, R191: STA, STX and STY, their thirteen forms: the one byte stored to, and no flag. -/
def Obligations.StoreResults : Prop :=
  ∀ s : State,
    (OnZeropage 0x85#8 .staZeropage (Stores s.a s) ∧
      OnZeropageX s 0x95#8 .staZeropageX (Stores s.a s) ∧
      OnAbsolute 0x8D#8 .staAbsolute (Stores s.a s) ∧
      OnAbsoluteX s 0x9D#8 .staAbsoluteX (Stores s.a s) ∧
      OnAbsoluteY s 0x99#8 .staAbsoluteY (Stores s.a s) ∧
      OnXIndirect s 0x81#8 .staXIndirect (Stores s.a s) ∧
      OnIndirectY s 0x91#8 .staIndirectY (Stores s.a s)) ∧
    (OnZeropage 0x86#8 .stxZeropage (Stores s.x s) ∧
      OnZeropageY s 0x96#8 .stxZeropageY (Stores s.x s) ∧
      OnAbsolute 0x8E#8 .stxAbsolute (Stores s.x s)) ∧
    (OnZeropage 0x84#8 .styZeropage (Stores s.y s) ∧
      OnZeropageX s 0x94#8 .styZeropageX (Stores s.y s) ∧
      OnAbsolute 0x8C#8 .styAbsolute (Stores s.y s))

/-- R34, R65: the stack byte an SP names lies in page 0x01; SP wraps within 8 bits both ways. -/
def Obligations.StackStaysInPageOne : Prop :=
  ∀ s : State, ∀ v : Byte,
    (stackAddr s.sp).toNat = 256 + s.sp.toNat ∧
    (∀ b, (s.push v).read b = if b.toNat = 256 + s.sp.toNat then v else s.read b) ∧
    (s.push v).sp.toNat = (s.sp.toNat + 255) % 256 ∧
    s.unpush.sp.toNat = (s.sp.toNat + 1) % 256 ∧
    s.pulled = s.read (BitVec.ofNat 16 (256 + (s.sp.toNat + 1) % 256)) ∧
    (s.push v).unpush.sp = s.sp ∧ (s.push v).pulled = v

/-- R200, R201: PHA and PHP. -/
def Obligations.PushResults : Prop :=
  ∀ s : State,
    (opcodeOf .pha = 0x48#8 ∧
      ∃ t, exec .pha s = .next t ∧ (∀ b, t.read b = if b = below s 0 then s.a else s.read b) ∧
        t.sp.toNat = (s.sp.toNat + 255) % 256 ∧ t = { s with sp := t.sp, mem := t.mem }) ∧
    (opcodeOf .php = 0x08#8 ∧
      ∃ t, exec .php s = .next t ∧ (∀ b, t.read b = if b = below s 0 then pushedStatus s.flags else s.read b) ∧
        t.sp.toNat = (s.sp.toNat + 255) % 256 ∧ t = { s with sp := t.sp, mem := t.mem })

/-- R202, R203: PLA and PLP; no byte of memory changes. -/
def Obligations.PullResults : Prop :=
  ∀ s : State,
    (opcodeOf .pla = 0x68#8 ∧
      exec .pla s = .next
        { s with
          a := s.read (above s 1)
          sp := BitVec.ofNat 8 (s.sp.toNat + 1)
          flags := nz s.flags (s.read (above s 1)) }) ∧
    (opcodeOf .plp = 0x28#8 ∧
      exec .plp s = .next { s with sp := BitVec.ofNat 8 (s.sp.toNat + 1), flags := flagsIn (s.read (above s 1)) })

/-- 45_stack_jump.md: JSR pushes the address of its last byte, high byte first, and goes to its operand; PC is the JSR + 3.
This is R204's pseudocode and D8. That it holds of a JSR at 0xFFFD too, of which R204's corner case says another address, is
the model's choice (log entry 13). -/
def Obligations.JsrResult : Prop :=
  ∀ (s : State) (w : Word),
    opcodeOf (.jsr w) = 0x20#8 ∧
    ∃ t ret, exec (.jsr w) s = .next t ∧ ret = (s.pc.toNat + 65535) % 65536 ∧
      (∀ b, t.read b =
        if b = below s 1 then BitVec.ofNat 8 (ret % 256) else if b = below s 0 then BitVec.ofNat 8 (ret / 256)
        else s.read b) ∧
      t.sp.toNat = (s.sp.toNat + 254) % 256 ∧ t.pc = w ∧ t = { s with sp := t.sp, pc := t.pc, mem := t.mem }

/-- R205: RTS pulls an address, low byte first, and goes to the one after it. -/
def Obligations.RtsResult : Prop :=
  ∀ s : State,
    opcodeOf .rts = 0x60#8 ∧
    exec .rts s = .next
      { s with
        sp := BitVec.ofNat 8 (s.sp.toNat + 2)
        pc := BitVec.ofNat 16 (number (s.read (above s 1)) (s.read (above s 2)) + 1) }

/-- R206: RTI pulls the status, then PC low, then PC high, with no +1. -/
def Obligations.RtiResult : Prop :=
  ∀ s : State,
    opcodeOf .rti = 0x40#8 ∧
    exec .rti s = .next
      { s with
        flags := flagsIn (s.read (above s 1))
        sp := BitVec.ofNat 8 (s.sp.toNat + 3)
        pc := BitVec.ofNat 16 (number (s.read (above s 2)) (s.read (above s 3))) }

/-- R207: BRK, the core's only trap. PC is the BRK + 1: what is saved is the address BRK + 2, high byte first, and the
status byte with bits 5 and 4 set and the I from before; B and I are set and PC is the word at 0xFFFE. -/
def Obligations.BrkResult : Prop :=
  ∀ s : State,
    opcodeOf .brk = 0x00#8 ∧
    ∃ t ret, exec .brk s = .next t ∧ ret = (s.pc.toNat + 1) % 65536 ∧
      (∀ b, t.read b =
        if b = below s 2 then pushedStatus s.flags
        else if b = below s 1 then BitVec.ofNat 8 (ret % 256)
        else if b = below s 0 then BitVec.ofNat 8 (ret / 256)
        else s.read b) ∧
      t.sp.toNat = (s.sp.toNat + 253) % 256 ∧
      t.flags = { s.flags with b := true, i := true } ∧
      t.pc.toNat = number (s.read 0xFFFE#16) (s.read 0xFFFF#16) ∧
      t = { s with sp := t.sp, flags := t.flags, pc := t.pc, mem := t.mem }

/-- R208: JMP absolute goes to its operand, JMP indirect to the word its pointer names, by the open parameter. -/
def Obligations.JmpResults : Prop :=
  ∀ (s : State) (w : Word),
    (opcodeOf (.jmpAbsolute w) = 0x4C#8 ∧ exec (.jmpAbsolute w) s = .next { s with pc := w }) ∧
    (opcodeOf (.jmpIndirect w) = 0x6C#8 ∧
      ∃ t, exec (.jmpIndirect w) s = .next t ∧ t = { s with pc := t.pc } ∧
        t.pc.toNat =
          number (s.read w)
            (s.read (BitVec.ofNat 16
              (if s.cfg.jmpIndPageWrap = true then w.toNat / 256 * 256 + (w.toNat + 1) % 256 else w.toNat + 1))))

/-- R220 to R227: each flag instruction sets or clears exactly the named flag (read back from the state it leaves), and
NOP changes nothing. -/
def Obligations.FlagOpsResults : Prop :=
  ∀ s : State,
    (opcodeOf .sec = 0x38#8 ∧ exec .sec s = .next { s with flags := { s.flags with c := true } }) ∧
    (opcodeOf .clc = 0x18#8 ∧ exec .clc s = .next { s with flags := { s.flags with c := false } }) ∧
    (opcodeOf .sei = 0x78#8 ∧ exec .sei s = .next { s with flags := { s.flags with i := true } }) ∧
    (opcodeOf .cli = 0x58#8 ∧ exec .cli s = .next { s with flags := { s.flags with i := false } }) ∧
    (opcodeOf .sed = 0xF8#8 ∧ exec .sed s = .next { s with flags := { s.flags with d := true } }) ∧
    (opcodeOf .cld = 0xD8#8 ∧ exec .cld s = .next { s with flags := { s.flags with d := false } }) ∧
    (opcodeOf .clv = 0xB8#8 ∧ exec .clv s = .next { s with flags := { s.flags with v := false } }) ∧
    (opcodeOf .nop = 0xEA#8 ∧ exec .nop s = .next s)

/-! ### Pairs of instructions -/

/-- 45_stack_jump.md: an RTS at the JSR's target, run with the stack as the JSR left it, returns to the instruction after
the JSR with SP as before; A, X, Y and the flags are untouched. It holds of a JSR at 0xFFFD by log entry 13. -/
def Obligations.JsrThenRtsReturns : Prop :=
  ∀ (s : State) (w p : Word), ∃ t u,
    exec (.jsr w) s = .next t ∧ exec .rts { t with pc := p } = .next u ∧ u = { s with mem := u.mem } ∧
    ∀ b, b ≠ below s 0 → b ≠ below s 1 → u.read b = s.read b

/-- 60_exceptions.md: an RTI run with the stack as a BRK left it restores every flag but B (loaded as 1) and SP, and
returns to the BRK + 2. -/
def Obligations.BrkThenRtiReturns : Prop :=
  ∀ (s : State) (p : Word) (f : Flags), ∃ t u,
    exec .brk s = .next t ∧ exec .rti { t with pc := p, flags := f } = .next u ∧
    u.pc.toNat = (s.pc.toNat + 1) % 65536 ∧
    u = { s with pc := u.pc, flags := { s.flags with b := true }, mem := u.mem }

/-- 45_stack_jump.md: PLA after PHA gives A back whatever A held in between, and PLP after PHP the flags, B loaded
as 1. -/
def Obligations.PullAfterPushRestores : Prop :=
  ∀ (s : State) (v : Byte) (f : Flags),
    (∃ t u, exec .pha s = .next t ∧ exec .pla { t with a := v } = .next u ∧ u.a = s.a ∧ u.sp = s.sp) ∧
    (∃ t u, exec .php s = .next t ∧ exec .plp { t with flags := f } = .next u ∧
      u.flags = { s.flags with b := true } ∧ u.sp = s.sp)

/-! ### Frames over all instructions -/

/-- 20_memory.md R70: every byte of memory reads as before but the ones the instruction stores to. -/
def Obligations.MemoryFrame : Prop :=
  ∀ (i : Instr) (s t : State), exec i s = .next t → ∀ b, b ∉ storedAddrs i s → t.read b = s.read b

/-- 10_state.md R38: no other instruction writes a flag. -/
def Obligations.FlagFrame : Prop :=
  ∀ (i : Instr) (s t : State), exec i s = .next t →
    (i.mnemonic ∉ writersOfNZ → t.flags.n = s.flags.n ∧ t.flags.z = s.flags.z) ∧
    (i.mnemonic ∉ writersOfV → t.flags.v = s.flags.v) ∧
    (i.mnemonic ∉ writersOfB → t.flags.b = s.flags.b) ∧
    (i.mnemonic ∉ writersOfD → t.flags.d = s.flags.d) ∧
    (i.mnemonic ∉ writersOfI → t.flags.i = s.flags.i) ∧
    (i.mnemonic ∉ writersOfC → t.flags.c = s.flags.c)

/-- 10_state.md R32 to R35: who writes A, X, Y, SP and PC. R41 to R43 and 40_engine.md R110: no instruction's own effect
writes the engine's state, the error record or the cycle counter, which the step alone does. That the open parameter is a
field of State which no instruction writes is the model's choice (log entry 1). -/
def Obligations.RegisterFrame : Prop :=
  ∀ (i : Instr) (s t : State), exec i s = .next t →
    (i.mnemonic ∉ writersOfA → i.mode ≠ .accumulator → t.a = s.a) ∧
    (i.mnemonic ∉ writersOfX → t.x = s.x) ∧
    (i.mnemonic ∉ writersOfY → t.y = s.y) ∧
    (i.mnemonic ∉ writersOfSp → t.sp = s.sp) ∧
    (i.mnemonic ∉ controlTransfers → t.pc = s.pc) ∧
    t.run = s.run ∧ t.err = s.err ∧ t.cycles = s.cycles ∧ t.cfg = s.cfg

/-! ### The step -/

/-- R110, R111, R113: a step of a running engine whose bytes at PC (read at PC, PC + 1, PC + 2 modulo 0x10000) decode to
an instruction is exec of it with PC past its bytes; then its cost is added to the cycle counter. -/
def Obligations.StepRunsTheDecodedInstruction : Prop :=
  ∀ (s : State) (i : Instr) (rest : List Byte),
    s.run = .running →
    decode [s.read s.pc, s.read (BitVec.ofNat 16 (s.pc.toNat + 1)), s.read (BitVec.ofNat 16 (s.pc.toNat + 2))] =
      .ok (i, rest) →
    ∃ t, exec i { s with pc := BitVec.ofNat 16 (s.pc.toNat + (encode i).length) } = .next t ∧
      step s = .next
        { t with
          cycles := t.cycles + baseCycles i +
            penalty i { s with pc := BitVec.ofNat 16 (s.pc.toNat + (encode i).length) } }

/-- R231: an opcode byte with no table entry halts the engine: the byte and its address are recorded, PC is past the
byte, and nothing else changes. -/
def Obligations.InvalidOpcodeHalts : Prop :=
  ∀ s : State, s.run = .running → s.read s.pc ∈ invalidBytes →
    step s = .next
      { s with
        pc := BitVec.ofNat 16 (s.pc.toNat + 1)
        run := .halted
        err := some (.invalidOpcode (s.read s.pc) s.pc) }

/-- R133, R244: no instruction halts after decode: every other opcode byte completes its step with the engine Running.
R130, R131, R275: the step adds base cycles and penalty, between 2 and 7 in all. -/
def Obligations.ValidOpcodeCompletes : Prop :=
  ∀ s : State, s.run = .running → s.read s.pc ∉ invalidBytes →
    ∃ t, step s = .next t ∧ t.run = .running ∧ t.err = s.err ∧ s.cycles + 2 ≤ t.cycles ∧ t.cycles ≤ s.cycles + 7

/-- R235: any number of steps of a halted engine changes nothing, and each returns the cycle count and true. -/
def Obligations.HaltedEngineIsInert : Prop :=
  ∀ (k : Nat) (s : State), s.run = .halted →
    Sys2Proof.core.run k s = .next s ∧ stepOutputs s = (s.cycles, true, s.err)

/-- Every step, of every state, answers a next state: this is the model's choice (log entry 3), by which the halt of an
invalid opcode is a next state and not a fault. R77, R232: no step records AddressOutOfRange. -/
def Obligations.EveryStepAnswersANextState : Prop :=
  ∀ s : State, ∃ t, step s = .next t ∧
    ∀ addr, t.err = some (.addressOutOfRange addr) → s.err = some (.addressOutOfRange addr)

/-- The model's canonical memory (log entry 4) and R42: every step keeps the invariant. -/
def Obligations.StepKeepsTheInvariant : Prop :=
  ∀ s t : State, s.inv = true → step s = .next t → t.inv = true

/-- R39: the stored B is unobservable: over any number of steps two runs that differ in B alone differ in B alone. -/
def Obligations.BFlagIsUnobservable : Prop :=
  ∀ (k : Nat) (s : State) (b : Bool), ∃ t b',
    Sys2Proof.core.run k s = .next t ∧ Sys2Proof.core.run k (withB s b) = .next (withB t b')

/-- R132: no register, flag or memory byte depends on `cycles`: a run from a state with another count differs in the count
alone, by as much. -/
def Obligations.CyclesAreUnobservable : Prop :=
  ∀ (k : Nat) (s : State) (n : Nat), ∃ t,
    Sys2Proof.core.run k s = .next t ∧
    Sys2Proof.core.run k { s with cycles := s.cycles + n } = .next { t with cycles := t.cycles + n }

/-- R14, R121 (the model's field `cfg`, log entry 1): the open parameter is never written, and only JMP indirect (opcode
0x6C) reads it. -/
def Obligations.OnlyJmpIndirectReadsTheParameter : Prop :=
  ∀ (s : State) (c : Config), s.read s.pc ≠ 0x6C#8 → ∃ t,
    step s = .next t ∧ t.cfg = s.cfg ∧ step { s with cfg := c } = .next { t with cfg := c }

/-! ### Cycles -/

/-- R275: the base cycle counts of all 151 opcodes, by the rule's table. -/
def Obligations.BaseCyclesTable : Prop := ∀ i : Instr, baseCycles i = cyclesOf i.mnemonic i.mode

/-- R131: the penalty: 1 for a crossing of the opcodes that pay it, that of a branch, and 0 for every other. -/
def Obligations.CyclePenalty : Prop :=
  (∀ (i : Instr) (s : State), i.mode ≠ .relative →
    (paysOnCross i.mnemonic i.mode ∧ crosses s i.mode i.arg → penalty i s = 1) ∧
    (¬(paysOnCross i.mnemonic i.mode ∧ crosses s i.mode i.arg) → penalty i s = 0)) ∧
  ∀ (s : State) (d : Int),
    penalty (.bcc d) s = branchCycles (s.flags.c = false) s d ∧
    penalty (.bcs d) s = branchCycles (s.flags.c = true) s d ∧
    penalty (.beq d) s = branchCycles (s.flags.z = true) s d ∧
    penalty (.bne d) s = branchCycles (s.flags.z = false) s d ∧
    penalty (.bmi d) s = branchCycles (s.flags.n = true) s d ∧
    penalty (.bpl d) s = branchCycles (s.flags.n = false) s d ∧
    penalty (.bvc d) s = branchCycles (s.flags.v = false) s d ∧
    penalty (.bvs d) s = branchCycles (s.flags.v = true) s d

/-! ### Load and reset -/

/-- R260, R262: reset in any state, and reset twice is reset once. -/
def Obligations.ResetEffect : Prop :=
  ∀ s : State,
    (resetOp s).a = 0x00#8 ∧ (resetOp s).x = 0x00#8 ∧ (resetOp s).y = 0x00#8 ∧ (resetOp s).sp = 0xFD#8 ∧
    (resetOp s).flags = flagsIn 0x24#8 ∧ (resetOp s).flags.toByte = 0x24#8 ∧
    (resetOp s).pc.toNat = number (s.read 0xFFFC#16) (s.read 0xFFFD#16) ∧
    (resetOp s).run = .running ∧ (resetOp s).err = none ∧ (resetOp s).cycles = 0 ∧
    (∀ b, (resetOp s).read b = s.read b) ∧ resetOp (resetOp s) = resetOp s

/-- R67: the memory of a loaded image, and the refusal of every other size. That the memory is in canonical form
(`wf`) is the model's choice (log entry 4). -/
def Obligations.LoadMapsTheImage : Prop :=
  ∀ image : List Byte,
    (image.length = 32768 → ∃ m, load image = some m ∧ m.wf = true ∧
      ∀ b : Word, m.read b = if b.toNat < 0x8000 then 0x00#8 else image.getD (b.toNat - 0x8000) 0x00#8) ∧
    (image.length = 16384 → ∃ m, load image = some m ∧ m.wf = true ∧
      ∀ b : Word, m.read b = if b.toNat < 0x8000 then 0x00#8 else image.getD ((b.toNat - 0x8000) % 16384) 0x00#8) ∧
    (image.length ≠ 32768 → image.length ≠ 16384 → load image = none)

/-- R261, R263: the state before the first step is a Running reset state whose PC is the image's reset vector. The
canonical memory in `inv` (log entry 4; its other half is R42) and the open parameter kept in `cfg` (log entry 1) are the
model's choices. -/
def Obligations.ConstructionIsAReset : Prop :=
  ∀ (cfg : Config) (image : List Byte) (offset : Nat),
    (image.length = 32768 ∧ offset = 0x7FFC ∨ image.length = 16384 ∧ offset = 0x3FFC) →
    ∃ s, construct cfg image = some s ∧ s = resetOp s ∧ s.inv = true ∧ s.run = .running ∧ s.cfg = cfg ∧
      s.pc.toNat = number (image.getD offset 0x00#8) (image.getD (offset + 1) 0x00#8)

/-- 10_state.md R46: the values of `State.reset`, which is running and is the state a reset of it gives. That its memory
lists nothing (log entry 2) and the canonical memory form in `inv` (log entry 4; its other half is R42) are the model's
choices. -/
def Obligations.ResetStateValues : Prop :=
  State.reset.inv = true ∧ State.reset.safe = true ∧ State.reset = resetOp State.reset ∧
  (∀ b, State.reset.read b = 0x00#8) ∧
  State.reset.a = 0x00#8 ∧ State.reset.x = 0x00#8 ∧ State.reset.y = 0x00#8 ∧ State.reset.sp = 0xFD#8 ∧
  State.reset.pc = 0x0000#16 ∧ State.reset.flags = flagsIn 0x24#8 ∧ State.reset.cycles = 0
end

