-- ==== Sys2Proof/Laws/Flags.lean ====
section
/-! SUPPORT. Laws/Flags.lean: what the flag computations say in numbers. -/

namespace Sys2Proof.Machine

open Sys2Proof

/-- Bit 7 of a byte is its value being 128 or more. -/
theorem bit7_iff (r : Byte) : r.getLsbD 7 = decide (128 ≤ r.toNat) := by
  revert r; decide +kernel

/-- A byte is zero exactly when its value is. -/
theorem eq_zero_iff (r : Byte) : r = 0#8 ↔ r.toNat = 0 := by
  constructor
  · rintro rfl; rfl
  · intro h; exact BitVec.eq_of_toNat_eq (by simpa using h)

/-- R17 `SetNZ`, in numbers. -/
theorem Flags.setNZ_eq (f : Flags) (r : Byte) :
    f.setNZ r = { f with n := decide (128 ≤ r.toNat), z := decide (r.toNat = 0) } := by
  simp only [Flags.setNZ, bit7_iff, eq_zero_iff]

/-- R36, R37: loading the serialised flags gives the flags back. -/
theorem Flags.ofByte_toByte (f : Flags) : Flags.ofByte f.toByte = f := by
  obtain ⟨n, v, b, d, i, z, c⟩ := f
  cases n <;> cases v <;> cases b <;> cases d <;> cases i <;> cases z <;> cases c <;> rfl

/-- R201, R207: loading the pushed flags gives them back with B set. -/
theorem Flags.ofByte_pushed (f : Flags) : Flags.ofByte f.pushed = { f with b := true } := by
  obtain ⟨n, v, b, d, i, z, c⟩ := f
  cases n <;> cases v <;> cases b <;> cases d <;> cases i <;> cases z <;> cases c <;> rfl

/-- R39: the pushed status byte does not depend on B. -/
theorem Flags.pushed_ignores_b (f : Flags) (b : Bool) : Flags.pushed { f with b := b } = f.pushed := by
  obtain ⟨n, v, b', d, i, z, c⟩ := f
  cases n <;> cases v <;> cases b' <;> cases d <;> cases i <;> cases z <;> cases c <;> cases b <;> rfl

@[simp] theorem toNat_adcResult (a m : Byte) (c : Bool) : (adcResult a m c).toNat = adcSum a m c % 256 := by
  simp [adcResult]

end Sys2Proof.Machine
end

