-- ==== Sys2Proof/Laws/Memory.lean ====
section
/-! SUPPORT. Laws/Memory.lean: read after write, and that every memory operation keeps the canonical form. -/

namespace Sys2Proof.Machine

open Sys2Proof

/-! ### The cells -/

theorem Memory.find_remove (m : Memory) (k j : Nat) :
    (m.remove k).find j = if j = k then unlistedByte else m.find j := by
  induction m with
  | nil => simp [Memory.remove, Memory.find]
  | cons c m ih =>
    obtain ⟨i, v⟩ := c
    simp only [Memory.remove, Memory.find]
    split <;> simp only [Memory.find, ih] <;> grind

theorem Memory.find_insert (m : Memory) (k : Nat) (v : Byte) (j : Nat)
    (fresh : ∀ c ∈ m, c.1 ≠ k) : (m.insert k v).find j = if j = k then v else m.find j := by
  induction m with
  | nil => simp only [Memory.insert, Memory.find]; grind
  | cons c m ih =>
    obtain ⟨i, w⟩ := c
    have hi : i ≠ k := fresh (i, w) (by simp)
    have ih := ih (fun c hc => fresh c (by simp [hc]))
    simp only [Memory.insert]
    split <;> simp only [Memory.find, ih] <;> grind

theorem Memory.remove_fresh (m : Memory) (k : Nat) : ∀ c ∈ m.remove k, c.1 ≠ k := by
  induction m with
  | nil => simp [Memory.remove]
  | cons c m ih =>
    obtain ⟨i, v⟩ := c
    simp only [Memory.remove]
    split
    · exact ih
    · intro c hc
      rcases List.mem_cons.mp hc with rfl | hc
      · assumption
      · exact ih c hc

/-- R70: a write changes exactly the byte addressed, and a read answers the last byte written. -/
theorem Memory.read_write (m : Memory) (a : Word) (v : Byte) (b : Word) :
    (m.write a v).read b = if b = a then v else m.read b := by
  have key : b.toNat = a.toNat ↔ b = a := BitVec.toNat_inj
  simp only [Memory.read, Memory.write]
  split
  · next h => simp only [Memory.find_remove, key, h]
  · next h =>
    rw [Memory.find_insert _ _ _ _ (Memory.remove_fresh m a.toNat), Memory.find_remove]
    simp only [key]
    split <;> rfl

/-! ### The canonical form -/

theorem Memory.wfFrom_weaken {lo lo' : Nat} {m : Memory} (h : Memory.wfFrom lo m = true) (le : lo' ≤ lo) :
    Memory.wfFrom lo' m = true := by
  cases m with
  | nil => rfl
  | cons c m =>
    obtain ⟨k, v⟩ := c
    simp only [Memory.wfFrom, Bool.and_eq_true, decide_eq_true_eq] at h ⊢
    exact ⟨⟨⟨by omega, h.1.1.2⟩, h.1.2⟩, h.2⟩

theorem Memory.wfFrom_remove (m : Memory) (k lo : Nat) (h : Memory.wfFrom lo m = true) :
    Memory.wfFrom lo (m.remove k) = true := by
  induction m generalizing lo with
  | nil => rfl
  | cons c m ih =>
    obtain ⟨j, v⟩ := c
    simp only [Memory.wfFrom, Bool.and_eq_true, decide_eq_true_eq] at h
    simp only [Memory.remove]
    split
    · exact Memory.wfFrom_weaken (ih _ h.2) (by omega)
    · simp only [Memory.wfFrom, Bool.and_eq_true, decide_eq_true_eq]
      exact ⟨h.1, ih _ h.2⟩

theorem Memory.wfFrom_insert (m : Memory) (k : Nat) (v : Byte) (lo : Nat) (h : Memory.wfFrom lo m = true)
    (fresh : ∀ c ∈ m, c.1 ≠ k) (inRange : k < 65536) (nonzero : v ≠ unlistedByte) (le : lo ≤ k) :
    Memory.wfFrom lo (m.insert k v) = true := by
  induction m generalizing lo with
  | nil => simp [Memory.insert, Memory.wfFrom, le, inRange, nonzero]
  | cons c m ih =>
    obtain ⟨j, w⟩ := c
    have hj : j ≠ k := fresh (j, w) (by simp)
    simp only [Memory.wfFrom, Bool.and_eq_true, decide_eq_true_eq] at h
    simp only [Memory.insert]
    split
    · next lt =>
      simp only [Memory.wfFrom, Bool.and_eq_true, decide_eq_true_eq]
      exact ⟨⟨⟨le, inRange⟩, nonzero⟩, ⟨⟨⟨by omega, h.1.1.2⟩, h.1.2⟩, h.2⟩⟩
    · next ge =>
      simp only [Memory.wfFrom, Bool.and_eq_true, decide_eq_true_eq]
      exact ⟨h.1, ih _ h.2 (fun c hc => fresh c (by simp [hc])) (by omega)⟩

/-- A write keeps the canonical form. -/
theorem Memory.write_keeps_wf (m : Memory) (a : Word) (v : Byte) (h : m.wf = true) : (m.write a v).wf = true := by
  simp only [Memory.wf, Memory.write] at *
  split
  · exact Memory.wfFrom_remove m _ _ h
  · next nz =>
    exact Memory.wfFrom_insert _ _ _ _ (Memory.wfFrom_remove m _ _ h) (Memory.remove_fresh m _) a.isLt nz
      (Nat.zero_le _)

/-- The cells of a run of bytes that ends inside the address space are canonical. -/
theorem cellsFrom_wfFrom (k : Nat) (bs : List Byte) (h : k + bs.length ≤ 65536) :
    Memory.wfFrom k (cellsFrom k bs) = true := by
  induction bs generalizing k with
  | nil => rfl
  | cons b bs ih =>
    have ih := ih (k + 1) (by simp only [List.length_cons] at h; omega)
    simp only [cellsFrom]
    split
    · exact Memory.wfFrom_weaken ih (by omega)
    · next nz =>
      simp only [List.length_cons] at h
      simp only [Memory.wfFrom, Bool.and_eq_true, decide_eq_true_eq]
      exact ⟨⟨⟨Nat.le_refl _, by omega⟩, nz⟩, ih⟩

/-- A loaded image is canonical memory. -/
theorem load_wf {image : List Byte} {m : Memory} (h : load image = some m) : m.wf = true := by
  simp only [load] at h
  split at h
  · next len =>
    cases h
    exact Memory.wfFrom_weaken (cellsFrom_wfFrom _ _ (by omega)) (Nat.zero_le _)
  · split at h
    · next len =>
      cases h
      refine Memory.wfFrom_weaken (cellsFrom_wfFrom _ _ ?_) (Nat.zero_le _)
      rw [List.length_append]; omega
    · cases h

/-- Below its first address a run of cells reads as unlisted. -/
theorem find_cellsFrom_lt (k : Nat) (bs : List Byte) (j : Nat) (h : j < k) :
    Memory.find (cellsFrom k bs) j = unlistedByte := by
  induction bs generalizing k with
  | nil => rfl
  | cons b bs ih =>
    have ih := ih (k + 1) (by omega)
    simp only [cellsFrom]
    split
    · exact ih
    · simp only [Memory.find]
      rw [if_neg (by omega), ih]

/-- From its first address on, a run of cells reads as its bytes. -/
theorem find_cellsFrom (k : Nat) (bs : List Byte) (i : Nat) :
    Memory.find (cellsFrom k bs) (k + i) = bs.getD i unlistedByte := by
  induction bs generalizing k i with
  | nil => simp [cellsFrom, Memory.find]
  | cons b bs ih =>
    simp only [cellsFrom]
    cases i with
    | zero =>
      split
      · next h => simpa [h] using find_cellsFrom_lt (k + 1) bs k (by omega)
      · simp [Memory.find]
    | succ i =>
      have ih := ih (k + 1) i
      rw [show k + 1 + i = k + (i + 1) by omega] at ih
      split
      · simpa using ih
      · simp only [Memory.find]
        rw [if_neg (by omega), ih]
        simp

/-! ### Reads and writes of a state -/

theorem State.read_write (s : State) (a : Word) (v : Byte) (b : Word) :
    (s.write a v).read b = if b = a then v else s.read b := Memory.read_write s.mem a v b

@[simp] theorem State.read_write_same (s : State) (a : Word) (v : Byte) : (s.write a v).read a = v := by
  simp [State.read_write]

theorem State.read_write_other (s : State) {a b : Word} (v : Byte) (h : b ≠ a) : (s.write a v).read b = s.read b := by
  simp [State.read_write, h]

theorem State.read16_eq (s : State) (a : Word) : s.read16 a = wordOf (s.read a) (s.read (a + 1#16)) := rfl

theorem State.zpRead16_eq (s : State) (z : Byte) :
    s.zpRead16 z = wordOf (s.read (z.setWidth 16)) (s.read ((z + 1#8).setWidth 16)) := rfl

end Sys2Proof.Machine
end

