-- ==== Sys2Proof/Laws/State.lean ====
section
/-! SUPPORT. Laws/State.lean: what each update of State does to each field, one lemma per field per update. -/

namespace Sys2Proof.Machine

open Sys2Proof

variable (s : State)

@[simp] theorem State.setA_a (v : Byte) : (s.setA v).a = v := rfl
@[simp] theorem State.setA_x (v : Byte) : (s.setA v).x = s.x := rfl
@[simp] theorem State.setA_y (v : Byte) : (s.setA v).y = s.y := rfl
@[simp] theorem State.setA_sp (v : Byte) : (s.setA v).sp = s.sp := rfl
@[simp] theorem State.setA_pc (v : Byte) : (s.setA v).pc = s.pc := rfl
@[simp] theorem State.setA_flags (v : Byte) : (s.setA v).flags = s.flags := rfl
@[simp] theorem State.setA_mem (v : Byte) : (s.setA v).mem = s.mem := rfl
@[simp] theorem State.setA_run (v : Byte) : (s.setA v).run = s.run := rfl
@[simp] theorem State.setA_err (v : Byte) : (s.setA v).err = s.err := rfl
@[simp] theorem State.setA_cycles (v : Byte) : (s.setA v).cycles = s.cycles := rfl
@[simp] theorem State.setA_cfg (v : Byte) : (s.setA v).cfg = s.cfg := rfl
@[simp] theorem State.setA_read (v : Byte) (k : Word) : (s.setA v).read k = s.read k := rfl

@[simp] theorem State.setX_a (v : Byte) : (s.setX v).a = s.a := rfl
@[simp] theorem State.setX_x (v : Byte) : (s.setX v).x = v := rfl
@[simp] theorem State.setX_y (v : Byte) : (s.setX v).y = s.y := rfl
@[simp] theorem State.setX_sp (v : Byte) : (s.setX v).sp = s.sp := rfl
@[simp] theorem State.setX_pc (v : Byte) : (s.setX v).pc = s.pc := rfl
@[simp] theorem State.setX_flags (v : Byte) : (s.setX v).flags = s.flags := rfl
@[simp] theorem State.setX_mem (v : Byte) : (s.setX v).mem = s.mem := rfl
@[simp] theorem State.setX_run (v : Byte) : (s.setX v).run = s.run := rfl
@[simp] theorem State.setX_err (v : Byte) : (s.setX v).err = s.err := rfl
@[simp] theorem State.setX_cycles (v : Byte) : (s.setX v).cycles = s.cycles := rfl
@[simp] theorem State.setX_cfg (v : Byte) : (s.setX v).cfg = s.cfg := rfl
@[simp] theorem State.setX_read (v : Byte) (k : Word) : (s.setX v).read k = s.read k := rfl

@[simp] theorem State.setY_a (v : Byte) : (s.setY v).a = s.a := rfl
@[simp] theorem State.setY_x (v : Byte) : (s.setY v).x = s.x := rfl
@[simp] theorem State.setY_y (v : Byte) : (s.setY v).y = v := rfl
@[simp] theorem State.setY_sp (v : Byte) : (s.setY v).sp = s.sp := rfl
@[simp] theorem State.setY_pc (v : Byte) : (s.setY v).pc = s.pc := rfl
@[simp] theorem State.setY_flags (v : Byte) : (s.setY v).flags = s.flags := rfl
@[simp] theorem State.setY_mem (v : Byte) : (s.setY v).mem = s.mem := rfl
@[simp] theorem State.setY_run (v : Byte) : (s.setY v).run = s.run := rfl
@[simp] theorem State.setY_err (v : Byte) : (s.setY v).err = s.err := rfl
@[simp] theorem State.setY_cycles (v : Byte) : (s.setY v).cycles = s.cycles := rfl
@[simp] theorem State.setY_cfg (v : Byte) : (s.setY v).cfg = s.cfg := rfl
@[simp] theorem State.setY_read (v : Byte) (k : Word) : (s.setY v).read k = s.read k := rfl

@[simp] theorem State.setSp_a (v : Byte) : (s.setSp v).a = s.a := rfl
@[simp] theorem State.setSp_x (v : Byte) : (s.setSp v).x = s.x := rfl
@[simp] theorem State.setSp_y (v : Byte) : (s.setSp v).y = s.y := rfl
@[simp] theorem State.setSp_sp (v : Byte) : (s.setSp v).sp = v := rfl
@[simp] theorem State.setSp_pc (v : Byte) : (s.setSp v).pc = s.pc := rfl
@[simp] theorem State.setSp_flags (v : Byte) : (s.setSp v).flags = s.flags := rfl
@[simp] theorem State.setSp_mem (v : Byte) : (s.setSp v).mem = s.mem := rfl
@[simp] theorem State.setSp_run (v : Byte) : (s.setSp v).run = s.run := rfl
@[simp] theorem State.setSp_err (v : Byte) : (s.setSp v).err = s.err := rfl
@[simp] theorem State.setSp_cycles (v : Byte) : (s.setSp v).cycles = s.cycles := rfl
@[simp] theorem State.setSp_cfg (v : Byte) : (s.setSp v).cfg = s.cfg := rfl
@[simp] theorem State.setSp_read (v : Byte) (k : Word) : (s.setSp v).read k = s.read k := rfl

@[simp] theorem State.setPc_a (w : Word) : (s.setPc w).a = s.a := rfl
@[simp] theorem State.setPc_x (w : Word) : (s.setPc w).x = s.x := rfl
@[simp] theorem State.setPc_y (w : Word) : (s.setPc w).y = s.y := rfl
@[simp] theorem State.setPc_sp (w : Word) : (s.setPc w).sp = s.sp := rfl
@[simp] theorem State.setPc_pc (w : Word) : (s.setPc w).pc = w := rfl
@[simp] theorem State.setPc_flags (w : Word) : (s.setPc w).flags = s.flags := rfl
@[simp] theorem State.setPc_mem (w : Word) : (s.setPc w).mem = s.mem := rfl
@[simp] theorem State.setPc_run (w : Word) : (s.setPc w).run = s.run := rfl
@[simp] theorem State.setPc_err (w : Word) : (s.setPc w).err = s.err := rfl
@[simp] theorem State.setPc_cycles (w : Word) : (s.setPc w).cycles = s.cycles := rfl
@[simp] theorem State.setPc_cfg (w : Word) : (s.setPc w).cfg = s.cfg := rfl
@[simp] theorem State.setPc_read (w : Word) (k : Word) : (s.setPc w).read k = s.read k := rfl

@[simp] theorem State.setFlags_a (f : Flags) : (s.setFlags f).a = s.a := rfl
@[simp] theorem State.setFlags_x (f : Flags) : (s.setFlags f).x = s.x := rfl
@[simp] theorem State.setFlags_y (f : Flags) : (s.setFlags f).y = s.y := rfl
@[simp] theorem State.setFlags_sp (f : Flags) : (s.setFlags f).sp = s.sp := rfl
@[simp] theorem State.setFlags_pc (f : Flags) : (s.setFlags f).pc = s.pc := rfl
@[simp] theorem State.setFlags_flags (f : Flags) : (s.setFlags f).flags = f := rfl
@[simp] theorem State.setFlags_mem (f : Flags) : (s.setFlags f).mem = s.mem := rfl
@[simp] theorem State.setFlags_run (f : Flags) : (s.setFlags f).run = s.run := rfl
@[simp] theorem State.setFlags_err (f : Flags) : (s.setFlags f).err = s.err := rfl
@[simp] theorem State.setFlags_cycles (f : Flags) : (s.setFlags f).cycles = s.cycles := rfl
@[simp] theorem State.setFlags_cfg (f : Flags) : (s.setFlags f).cfg = s.cfg := rfl
@[simp] theorem State.setFlags_read (f : Flags) (k : Word) : (s.setFlags f).read k = s.read k := rfl

@[simp] theorem State.setNZ_a (r : Byte) : (s.setNZ r).a = s.a := rfl
@[simp] theorem State.setNZ_x (r : Byte) : (s.setNZ r).x = s.x := rfl
@[simp] theorem State.setNZ_y (r : Byte) : (s.setNZ r).y = s.y := rfl
@[simp] theorem State.setNZ_sp (r : Byte) : (s.setNZ r).sp = s.sp := rfl
@[simp] theorem State.setNZ_pc (r : Byte) : (s.setNZ r).pc = s.pc := rfl
@[simp] theorem State.setNZ_flags (r : Byte) : (s.setNZ r).flags = s.flags.setNZ r := rfl
@[simp] theorem State.setNZ_mem (r : Byte) : (s.setNZ r).mem = s.mem := rfl
@[simp] theorem State.setNZ_run (r : Byte) : (s.setNZ r).run = s.run := rfl
@[simp] theorem State.setNZ_err (r : Byte) : (s.setNZ r).err = s.err := rfl
@[simp] theorem State.setNZ_cycles (r : Byte) : (s.setNZ r).cycles = s.cycles := rfl
@[simp] theorem State.setNZ_cfg (r : Byte) : (s.setNZ r).cfg = s.cfg := rfl
@[simp] theorem State.setNZ_read (r : Byte) (k : Word) : (s.setNZ r).read k = s.read k := rfl

@[simp] theorem State.addCycles_a (n : Nat) : (s.addCycles n).a = s.a := rfl
@[simp] theorem State.addCycles_x (n : Nat) : (s.addCycles n).x = s.x := rfl
@[simp] theorem State.addCycles_y (n : Nat) : (s.addCycles n).y = s.y := rfl
@[simp] theorem State.addCycles_sp (n : Nat) : (s.addCycles n).sp = s.sp := rfl
@[simp] theorem State.addCycles_pc (n : Nat) : (s.addCycles n).pc = s.pc := rfl
@[simp] theorem State.addCycles_flags (n : Nat) : (s.addCycles n).flags = s.flags := rfl
@[simp] theorem State.addCycles_mem (n : Nat) : (s.addCycles n).mem = s.mem := rfl
@[simp] theorem State.addCycles_run (n : Nat) : (s.addCycles n).run = s.run := rfl
@[simp] theorem State.addCycles_err (n : Nat) : (s.addCycles n).err = s.err := rfl
@[simp] theorem State.addCycles_cycles (n : Nat) : (s.addCycles n).cycles = s.cycles + n := rfl
@[simp] theorem State.addCycles_cfg (n : Nat) : (s.addCycles n).cfg = s.cfg := rfl
@[simp] theorem State.addCycles_read (n : Nat) (k : Word) : (s.addCycles n).read k = s.read k := rfl

@[simp] theorem State.write_a (k : Word) (v : Byte) : (s.write k v).a = s.a := rfl
@[simp] theorem State.write_x (k : Word) (v : Byte) : (s.write k v).x = s.x := rfl
@[simp] theorem State.write_y (k : Word) (v : Byte) : (s.write k v).y = s.y := rfl
@[simp] theorem State.write_sp (k : Word) (v : Byte) : (s.write k v).sp = s.sp := rfl
@[simp] theorem State.write_pc (k : Word) (v : Byte) : (s.write k v).pc = s.pc := rfl
@[simp] theorem State.write_flags (k : Word) (v : Byte) : (s.write k v).flags = s.flags := rfl
@[simp] theorem State.write_mem (k : Word) (v : Byte) : (s.write k v).mem = s.mem.write k v := rfl
@[simp] theorem State.write_run (k : Word) (v : Byte) : (s.write k v).run = s.run := rfl
@[simp] theorem State.write_err (k : Word) (v : Byte) : (s.write k v).err = s.err := rfl
@[simp] theorem State.write_cycles (k : Word) (v : Byte) : (s.write k v).cycles = s.cycles := rfl
@[simp] theorem State.write_cfg (k : Word) (v : Byte) : (s.write k v).cfg = s.cfg := rfl

@[simp] theorem State.push_a (v : Byte) : (s.push v).a = s.a := rfl
@[simp] theorem State.push_x (v : Byte) : (s.push v).x = s.x := rfl
@[simp] theorem State.push_y (v : Byte) : (s.push v).y = s.y := rfl
@[simp] theorem State.push_sp (v : Byte) : (s.push v).sp = s.sp - 1#8 := rfl
@[simp] theorem State.push_pc (v : Byte) : (s.push v).pc = s.pc := rfl
@[simp] theorem State.push_flags (v : Byte) : (s.push v).flags = s.flags := rfl
@[simp] theorem State.push_mem (v : Byte) : (s.push v).mem = s.mem.write (stackAddr s.sp) v := rfl
@[simp] theorem State.push_run (v : Byte) : (s.push v).run = s.run := rfl
@[simp] theorem State.push_err (v : Byte) : (s.push v).err = s.err := rfl
@[simp] theorem State.push_cycles (v : Byte) : (s.push v).cycles = s.cycles := rfl
@[simp] theorem State.push_cfg (v : Byte) : (s.push v).cfg = s.cfg := rfl

@[simp] theorem State.pushWord_a (w : Word) : (s.pushWord w).a = s.a := rfl
@[simp] theorem State.pushWord_x (w : Word) : (s.pushWord w).x = s.x := rfl
@[simp] theorem State.pushWord_y (w : Word) : (s.pushWord w).y = s.y := rfl
@[simp] theorem State.pushWord_sp (w : Word) : (s.pushWord w).sp = s.sp - 1#8 - 1#8 := rfl
@[simp] theorem State.pushWord_pc (w : Word) : (s.pushWord w).pc = s.pc := rfl
@[simp] theorem State.pushWord_flags (w : Word) : (s.pushWord w).flags = s.flags := rfl
@[simp] theorem State.pushWord_mem (w : Word) : (s.pushWord w).mem = ((s.push (highByte w)).push (lowByte w)).mem := rfl
@[simp] theorem State.pushWord_run (w : Word) : (s.pushWord w).run = s.run := rfl
@[simp] theorem State.pushWord_err (w : Word) : (s.pushWord w).err = s.err := rfl
@[simp] theorem State.pushWord_cycles (w : Word) : (s.pushWord w).cycles = s.cycles := rfl
@[simp] theorem State.pushWord_cfg (w : Word) : (s.pushWord w).cfg = s.cfg := rfl

@[simp] theorem State.unpushWord_a : s.unpushWord.a = s.a := rfl
@[simp] theorem State.unpushWord_x : s.unpushWord.x = s.x := rfl
@[simp] theorem State.unpushWord_y : s.unpushWord.y = s.y := rfl
@[simp] theorem State.unpushWord_sp : s.unpushWord.sp = s.sp + 1#8 + 1#8 := rfl
@[simp] theorem State.unpushWord_pc : s.unpushWord.pc = s.pc := rfl
@[simp] theorem State.unpushWord_flags : s.unpushWord.flags = s.flags := rfl
@[simp] theorem State.unpushWord_mem : s.unpushWord.mem = s.mem := rfl
@[simp] theorem State.unpushWord_run : s.unpushWord.run = s.run := rfl
@[simp] theorem State.unpushWord_err : s.unpushWord.err = s.err := rfl
@[simp] theorem State.unpushWord_cycles : s.unpushWord.cycles = s.cycles := rfl
@[simp] theorem State.unpushWord_cfg : s.unpushWord.cfg = s.cfg := rfl

@[simp] theorem State.unpush_a : s.unpush.a = s.a := rfl
@[simp] theorem State.unpush_x : s.unpush.x = s.x := rfl
@[simp] theorem State.unpush_y : s.unpush.y = s.y := rfl
@[simp] theorem State.unpush_sp : s.unpush.sp = s.sp + 1#8 := rfl
@[simp] theorem State.unpush_pc : s.unpush.pc = s.pc := rfl
@[simp] theorem State.unpush_flags : s.unpush.flags = s.flags := rfl
@[simp] theorem State.unpush_mem : s.unpush.mem = s.mem := rfl
@[simp] theorem State.unpush_run : s.unpush.run = s.run := rfl
@[simp] theorem State.unpush_err : s.unpush.err = s.err := rfl
@[simp] theorem State.unpush_cycles : s.unpush.cycles = s.cycles := rfl
@[simp] theorem State.unpush_cfg : s.unpush.cfg = s.cfg := rfl
@[simp] theorem State.unpush_read (k : Word) : s.unpush.read k = s.read k := rfl

@[simp] theorem raiseHalt_a (e : EngineError) : (raiseHalt e s).a = s.a := rfl
@[simp] theorem raiseHalt_x (e : EngineError) : (raiseHalt e s).x = s.x := rfl
@[simp] theorem raiseHalt_y (e : EngineError) : (raiseHalt e s).y = s.y := rfl
@[simp] theorem raiseHalt_sp (e : EngineError) : (raiseHalt e s).sp = s.sp := rfl
@[simp] theorem raiseHalt_pc (e : EngineError) : (raiseHalt e s).pc = s.pc := rfl
@[simp] theorem raiseHalt_flags (e : EngineError) : (raiseHalt e s).flags = s.flags := rfl
@[simp] theorem raiseHalt_mem (e : EngineError) : (raiseHalt e s).mem = s.mem := rfl
@[simp] theorem raiseHalt_run (e : EngineError) : (raiseHalt e s).run = .halted := rfl
@[simp] theorem raiseHalt_err (e : EngineError) : (raiseHalt e s).err = some e := rfl
@[simp] theorem raiseHalt_cycles (e : EngineError) : (raiseHalt e s).cycles = s.cycles := rfl
@[simp] theorem raiseHalt_cfg (e : EngineError) : (raiseHalt e s).cfg = s.cfg := rfl

@[simp] theorem fetched_a (n : Nat) : (fetched n s).a = s.a := rfl
@[simp] theorem fetched_x (n : Nat) : (fetched n s).x = s.x := rfl
@[simp] theorem fetched_y (n : Nat) : (fetched n s).y = s.y := rfl
@[simp] theorem fetched_sp (n : Nat) : (fetched n s).sp = s.sp := rfl
@[simp] theorem fetched_pc (n : Nat) : (fetched n s).pc = s.pc + BitVec.ofNat 16 n := rfl
@[simp] theorem fetched_flags (n : Nat) : (fetched n s).flags = s.flags := rfl
@[simp] theorem fetched_mem (n : Nat) : (fetched n s).mem = s.mem := rfl
@[simp] theorem fetched_run (n : Nat) : (fetched n s).run = s.run := rfl
@[simp] theorem fetched_err (n : Nat) : (fetched n s).err = s.err := rfl
@[simp] theorem fetched_cycles (n : Nat) : (fetched n s).cycles = s.cycles := rfl
@[simp] theorem fetched_cfg (n : Nat) : (fetched n s).cfg = s.cfg := rfl
@[simp] theorem fetched_read (n : Nat) (k : Word) : (fetched n s).read k = s.read k := rfl

/-- Two states with the same fields are the same state. -/
@[ext] theorem State.ext_fields {s t : State} (a : s.a = t.a) (x : s.x = t.x) (y : s.y = t.y) (sp : s.sp = t.sp)
    (pc : s.pc = t.pc) (flags : s.flags = t.flags) (mem : s.mem = t.mem) (run : s.run = t.run) (err : s.err = t.err)
    (cycles : s.cycles = t.cycles) (cfg : s.cfg = t.cfg) : s = t := by
  cases s; cases t; simp_all

end Sys2Proof.Machine
end

