-- ==== Sys2Proof/Laws/Ops.lean ====
section
/-! SUPPORT. Laws/Ops.lean: what each shared operation does, once. -/

namespace Sys2Proof.Machine

open Sys2Proof

/-! ### Bytes and words -/

@[simp] theorem toNat_wordOf (lo hi : Byte) : (wordOf lo hi).toNat = lo.toNat + 256 * hi.toNat := by
  have hlo := lo.isLt
  have hhi := hi.isLt
  have key := Nat.two_pow_add_eq_or_of_lt (i := 8) hlo hi.toNat
  simp only [wordOf, BitVec.toNat_or, BitVec.toNat_setWidth, BitVec.toNat_shiftLeft, Nat.shiftLeft_eq]
  rw [Nat.mod_eq_of_lt (by omega : lo.toNat < 2 ^ 16), Nat.mod_eq_of_lt (by omega : hi.toNat < 2 ^ 16),
    Nat.mod_eq_of_lt (by omega : hi.toNat * 2 ^ 8 < 2 ^ 16), Nat.or_comm, Nat.mul_comm, ← key]
  omega

@[simp] theorem toNat_lowByte (w : Word) : (lowByte w).toNat = w.toNat % 256 := by simp [lowByte]

@[simp] theorem toNat_highByte (w : Word) : (highByte w).toNat = w.toNat / 256 := by
  have := w.isLt
  simp [highByte, Nat.shiftRight_eq_div_pow]
  omega

/-- R63, R204, R205: an address split into its bytes and put together again is the same address. -/
@[simp] theorem wordOf_lowByte_highByte (w : Word) : wordOf (lowByte w) (highByte w) = w := by
  apply BitVec.eq_of_toNat_eq
  simp
  omega

@[simp] theorem lowByte_wordOf (lo hi : Byte) : lowByte (wordOf lo hi) = lo := by
  apply BitVec.eq_of_toNat_eq
  have := lo.isLt
  simp
  omega

@[simp] theorem highByte_wordOf (lo hi : Byte) : highByte (wordOf lo hi) = hi := by
  apply BitVec.eq_of_toNat_eq
  have := lo.isLt
  simp
  omega

/-- R15: `sext` of a byte is its two's complement value. -/
theorem displacementOf_eq_toInt (b : Byte) : displacementOf b = b.toInt := by
  simp only [displacementOf, BitVec.toInt_eq_msb_cond]
  split <;> simp

/-! ### The stack -/

@[simp] theorem toNat_stackAddr (sp : Byte) : (stackAddr sp).toNat = 256 + sp.toNat := by
  have h := sp.isLt
  have key := Nat.two_pow_add_eq_or_of_lt (i := 8) h 1
  simp only [stackAddr, BitVec.toNat_or, BitVec.toNat_setWidth, BitVec.toNat_ofNat]
  rw [Nat.mod_eq_of_lt (by omega : sp.toNat < 2 ^ 16), show 256 % 2 ^ 16 = 2 ^ 8 * 1 by decide, ← key]

/-- R65: the stack never leaves page 0x01, so no stack byte is a byte of the BRK vector. -/
theorem stackAddr_ne_of_ge (sp : Byte) {a : Word} (h : 512 ≤ a.toNat) : a ≠ stackAddr sp := by
  rintro rfl
  have := sp.isLt
  simp at h
  omega

@[simp] theorem stackAddr_inj (p q : Byte) : stackAddr p = stackAddr q ↔ p = q := by
  constructor
  · intro h
    have h := congrArg BitVec.toNat h
    simp at h
    exact BitVec.eq_of_toNat_eq (by omega)
  · rintro rfl; rfl

/-- R65: what a push leaves in memory. -/
theorem State.read_push (s : State) (v : Byte) (b : Word) :
    (s.push v).read b = if b = stackAddr s.sp then v else s.read b := State.read_write s _ v b

/-- R65: the byte a pull answers. -/
theorem State.pulled_eq (s : State) : s.pulled = s.read (stackAddr (s.sp + 1#8)) := rfl

/-- R17: a pull after a push answers the byte pushed. -/
@[simp] theorem State.pulled_push (s : State) (v : Byte) : (s.push v).pulled = v := by
  simp [State.pulled_eq, State.read_push]

/-- R204, R207: what pushing an address leaves: the high byte above the low byte. -/
theorem State.read_pushWord (s : State) (w : Word) (b : Word) :
    (s.pushWord w).read b =
      if b = stackAddr (s.sp - 1#8) then lowByte w else if b = stackAddr s.sp then highByte w else s.read b := by
  simp only [State.pushWord, State.read_push, State.push_sp]

theorem State.pushWord_eq (s : State) (w : Word) :
    s.pushWord w = { s with sp := s.sp - 1#8 - 1#8, mem := (s.pushWord w).mem } := rfl

/-- R205: the address a pull of two bytes answers. -/
theorem State.pulledWord_eq (s : State) :
    s.pulledWord = wordOf (s.read (stackAddr (s.sp + 1#8))) (s.read (stackAddr (s.sp + 1#8 + 1#8))) := rfl

/-! ### Branch, BRK, RTI -/

/-- R160: a branch writes PC alone. -/
theorem branch_eq (taken : Bool) (d : Int) (s : State) :
    branch taken d s = { s with pc := if taken then branchTarget s.pc d else s.pc } := by
  cases taken <;> rfl

/-- R207: the bytes BRK's entry leaves: the status byte, the return address below it in pull order, all else kept. -/
theorem takeBreak_read (s : State) (b : Word) :
    (takeBreak s).read b =
      if b = stackAddr (s.sp - 1#8 - 1#8) then Flags.pushed { s.flags with b := true }
      else if b = stackAddr (s.sp - 1#8) then lowByte (s.pc + 1#16)
      else if b = stackAddr s.sp then highByte (s.pc + 1#16)
      else s.read b := by
  have h : (takeBreak s).read b =
      (((s.pushWord (s.pc + 1#16)).setFlags { s.flags with b := true }).push
        (Flags.pushed { s.flags with b := true })).read b := rfl
  rw [h, State.read_push, State.setFlags_read, State.read_pushWord]
  rfl

/-- R207, R65: PC is the BRK vector's word, which the pushes cannot touch. -/
theorem takeBreak_pc (s : State) : (takeBreak s).pc = s.read16 breakVector := by
  have h : (takeBreak s).pc = wordOf ((takeBreak s).read breakVector) ((takeBreak s).read (breakVector + 1#16)) := rfl
  have low : ∀ p, breakVector ≠ stackAddr p := fun p => stackAddr_ne_of_ge p (by decide)
  have high : ∀ p, breakVector + 1#16 ≠ stackAddr p := fun p => stackAddr_ne_of_ge p (by decide)
  simp only [h, takeBreak_read, low, high, if_false, State.read16_eq]

/-- R207: the registers and flags BRK's entry leaves. -/
theorem takeBreak_eq (s : State) :
    takeBreak s =
      { s with
        sp := s.sp - 1#8 - 1#8 - 1#8
        flags := { s.flags with b := true, i := true }
        pc := s.read16 breakVector
        mem := (takeBreak s).mem } := by
  apply State.ext_fields
  case pc => exact takeBreak_pc s
  case mem => rfl
  all_goals simp [takeBreak]

/-- R206: the state RTI leaves. -/
theorem returnFromBreak_eq (s : State) :
    returnFromBreak s =
      { s with
        flags := Flags.ofByte (s.read (stackAddr (s.sp + 1#8)))
        sp := s.sp + 1#8 + 1#8 + 1#8
        pc := wordOf (s.read (stackAddr (s.sp + 1#8 + 1#8))) (s.read (stackAddr (s.sp + 1#8 + 1#8 + 1#8))) } := rfl

/-! ### Read-modify-write -/

/-- R127: the accumulator form. -/
theorem modifyA_eq (byte : Bool → Byte → Byte) (flags : Flags → Byte → Byte → Flags) (s : State) :
    modifyA byte flags s =
      { s with a := byte s.flags.c s.a, flags := flags s.flags s.a (byte s.flags.c s.a) } := rfl

/-- R127: the memory form. -/
theorem modifyAt_eq (byte : Bool → Byte → Byte) (flags : Flags → Byte → Byte → Flags) (ea : Word) (s : State) :
    modifyAt byte flags ea s =
      { s.write ea (byte s.flags.c (s.read ea)) with
        flags := flags s.flags (s.read ea) (byte s.flags.c (s.read ea)) } := rfl

/-! ### The canonical form of memory under the shared operations -/

theorem State.write_keeps_wf {s : State} (h : s.mem.wf = true) (a : Word) (v : Byte) : (s.write a v).mem.wf = true :=
  Memory.write_keeps_wf s.mem a v h

theorem State.push_keeps_wf {s : State} (h : s.mem.wf = true) (v : Byte) : (s.push v).mem.wf = true :=
  State.write_keeps_wf h _ v

theorem State.pushWord_keeps_wf {s : State} (h : s.mem.wf = true) (w : Word) : (s.pushWord w).mem.wf = true :=
  State.push_keeps_wf (State.push_keeps_wf h _) _

theorem takeBreak_keeps_wf {s : State} (h : s.mem.wf = true) : (takeBreak s).mem.wf = true :=
  State.push_keeps_wf (s := ((s.pushWord (s.pc + 1#16)).setFlags _)) (State.pushWord_keeps_wf h _) _

theorem modifyAt_keeps_wf {s : State} (h : s.mem.wf = true) (byte : Bool → Byte → Byte)
    (flags : Flags → Byte → Byte → Flags) (ea : Word) : (modifyAt byte flags ea s).mem.wf = true :=
  State.write_keeps_wf h ea _

theorem placeAtPc_keeps_wf {s : State} (h : s.mem.wf = true) (nbits w : Nat) : (placeAtPc s nbits w).mem.wf = true :=
  State.write_keeps_wf (s := (s.write s.pc _).write (s.pc + 1#16) _)
    (State.write_keeps_wf (State.write_keeps_wf h _ _) _ _) _ _

theorem reset_wf : State.reset.mem.wf = true := rfl

/-! ### Effective addresses -/

@[simp] theorem toNat_zeropage (z : Byte) : (zeropage z).ea.toNat = z.toNat := by
  have := z.isLt
  simp [zeropage]
  omega

@[simp] theorem toNat_indexed (base : Word) (index : Byte) :
    (indexed base index).ea.toNat = (base.toNat + index.toNat) % 65536 := by
  simp [indexed, BitVec.toNat_add]

/-- `v & 0xFF00`, in numbers: the page of an address. -/
theorem toNat_page (v : Word) : (v &&& 0xFF00#16).toNat = v.toNat / 256 * 256 := by
  have e : v &&& 0xFF00#16 = (v >>> 8) <<< 8 := by
    ext i hi
    have h : i ∈ List.range 16 := by simpa using hi
    fin_cases h <;> simp
  have := v.isLt
  rw [e]
  simp [Nat.shiftRight_eq_div_pow, Nat.shiftLeft_eq]
  omega

end Sys2Proof.Machine
end

