-- ==== Sys2Proof/Laws/Exec.lean ====
section
/-! SUPPORT. Laws/Exec.lean: what the operations of each family do, as one record update each, and what holds of every
instruction. -/

namespace Sys2Proof.Machine

open Sys2Proof

/-! ### One equation per family operation -/

/-- R140. -/
theorem adc_eq (m : Byte) (s : State) :
    adc m s = { s with a := adcResult s.a m s.flags.c, flags := s.flags.adc s.a m } := rfl

/-- R141. -/
theorem sbc_eq (m : Byte) (s : State) :
    sbc m s = { s with a := adcResult s.a (~~~m) s.flags.c, flags := s.flags.adc s.a (~~~m) } := rfl

/-- R142. -/
theorem andA_eq (m : Byte) (s : State) : andA m s = { s with a := s.a &&& m, flags := s.flags.setNZ (s.a &&& m) } := rfl

/-- R143. -/
theorem oraA_eq (m : Byte) (s : State) : oraA m s = { s with a := s.a ||| m, flags := s.flags.setNZ (s.a ||| m) } := rfl

/-- R144. -/
theorem eorA_eq (m : Byte) (s : State) : eorA m s = { s with a := s.a ^^^ m, flags := s.flags.setNZ (s.a ^^^ m) } := rfl

/-- R149. -/
theorem compareA_eq (m : Byte) (s : State) : compareA m s = { s with flags := s.flags.compare s.a m } := rfl

/-- R150. -/
theorem compareX_eq (m : Byte) (s : State) : compareX m s = { s with flags := s.flags.compare s.x m } := rfl

/-- R151. -/
theorem compareY_eq (m : Byte) (s : State) : compareY m s = { s with flags := s.flags.compare s.y m } := rfl

/-- R152. -/
theorem bitTest_eq (m : Byte) (s : State) : bitTest m s = { s with flags := s.flags.bitTest s.a m } := rfl

/-- R180. -/
theorem loadA_eq (v : Byte) (s : State) : loadA v s = { s with a := v, flags := s.flags.setNZ v } := rfl

/-- R181. -/
theorem loadX_eq (v : Byte) (s : State) : loadX v s = { s with x := v, flags := s.flags.setNZ v } := rfl

/-- R182. -/
theorem loadY_eq (v : Byte) (s : State) : loadY v s = { s with y := v, flags := s.flags.setNZ v } := rfl

/-- R127. -/
theorem store8_eq (e : EffAddr) (v : Byte) (s : State) : store8 e v s = { s with mem := s.mem.write e.ea v } := rfl

/-! ### The charge of a step -/

@[simp] theorem charge_next (n : Nat) (s : State) : charge n (.next s) = .next (s.addCycles n) := rfl

/-! ### Every instruction -/

/-- R133: no instruction stops: every meaning answers a next state, in every state. -/
theorem exec_answers_next (i : Instr) (s : State) : ∃ t, exec i s = .next t := by
  cases i <;> exact ⟨_, rfl⟩

/-- Every instruction keeps memory in canonical form. -/
theorem exec_keeps_wf {i : Instr} {s t : State} (h : exec i s = .next t) (wf : s.mem.wf = true) : t.mem.wf = true := by
  cases i
  all_goals obtain rfl := Host.Outcome.next.inj h
  case brk => exact takeBreak_keeps_wf wf
  all_goals first
    | exact wf
    | exact State.write_keeps_wf wf _ _
    | exact modifyAt_keeps_wf wf _ _ _
    | exact State.push_keeps_wf wf _
    | exact State.pushWord_keeps_wf wf _
    | (rw [branch_eq]; exact wf)

end Sys2Proof.Machine
end

