-- ==== Sys2Proof/Laws/PerInstr.lean ====
section
/-! SUPPORT. Laws/PerInstr.lean: facts about every instruction as syntax, one lemma per constructor. -/

namespace Sys2Proof.Laws.Length

open Sys2Proof

/-- R90, R91: the encoding of an instruction has the length its mode gives it. -/
def Statement (i : Instr) : Prop := (encode i).length = instrLength i

theorem adcImmediate (v : Byte) : Statement (.adcImmediate v) := rfl
theorem adcZeropage (z : Byte) : Statement (.adcZeropage z) := rfl
theorem adcZeropageX (z : Byte) : Statement (.adcZeropageX z) := rfl
theorem adcAbsolute (w : Word) : Statement (.adcAbsolute w) := rfl
theorem adcAbsoluteX (w : Word) : Statement (.adcAbsoluteX w) := rfl
theorem adcAbsoluteY (w : Word) : Statement (.adcAbsoluteY w) := rfl
theorem adcXIndirect (z : Byte) : Statement (.adcXIndirect z) := rfl
theorem adcIndirectY (z : Byte) : Statement (.adcIndirectY z) := rfl
theorem sbcImmediate (v : Byte) : Statement (.sbcImmediate v) := rfl
theorem sbcZeropage (z : Byte) : Statement (.sbcZeropage z) := rfl
theorem sbcZeropageX (z : Byte) : Statement (.sbcZeropageX z) := rfl
theorem sbcAbsolute (w : Word) : Statement (.sbcAbsolute w) := rfl
theorem sbcAbsoluteX (w : Word) : Statement (.sbcAbsoluteX w) := rfl
theorem sbcAbsoluteY (w : Word) : Statement (.sbcAbsoluteY w) := rfl
theorem sbcXIndirect (z : Byte) : Statement (.sbcXIndirect z) := rfl
theorem sbcIndirectY (z : Byte) : Statement (.sbcIndirectY z) := rfl
theorem andImmediate (v : Byte) : Statement (.andImmediate v) := rfl
theorem andZeropage (z : Byte) : Statement (.andZeropage z) := rfl
theorem andZeropageX (z : Byte) : Statement (.andZeropageX z) := rfl
theorem andAbsolute (w : Word) : Statement (.andAbsolute w) := rfl
theorem andAbsoluteX (w : Word) : Statement (.andAbsoluteX w) := rfl
theorem andAbsoluteY (w : Word) : Statement (.andAbsoluteY w) := rfl
theorem andXIndirect (z : Byte) : Statement (.andXIndirect z) := rfl
theorem andIndirectY (z : Byte) : Statement (.andIndirectY z) := rfl
theorem oraImmediate (v : Byte) : Statement (.oraImmediate v) := rfl
theorem oraZeropage (z : Byte) : Statement (.oraZeropage z) := rfl
theorem oraZeropageX (z : Byte) : Statement (.oraZeropageX z) := rfl
theorem oraAbsolute (w : Word) : Statement (.oraAbsolute w) := rfl
theorem oraAbsoluteX (w : Word) : Statement (.oraAbsoluteX w) := rfl
theorem oraAbsoluteY (w : Word) : Statement (.oraAbsoluteY w) := rfl
theorem oraXIndirect (z : Byte) : Statement (.oraXIndirect z) := rfl
theorem oraIndirectY (z : Byte) : Statement (.oraIndirectY z) := rfl
theorem eorImmediate (v : Byte) : Statement (.eorImmediate v) := rfl
theorem eorZeropage (z : Byte) : Statement (.eorZeropage z) := rfl
theorem eorZeropageX (z : Byte) : Statement (.eorZeropageX z) := rfl
theorem eorAbsolute (w : Word) : Statement (.eorAbsolute w) := rfl
theorem eorAbsoluteX (w : Word) : Statement (.eorAbsoluteX w) := rfl
theorem eorAbsoluteY (w : Word) : Statement (.eorAbsoluteY w) := rfl
theorem eorXIndirect (z : Byte) : Statement (.eorXIndirect z) := rfl
theorem eorIndirectY (z : Byte) : Statement (.eorIndirectY z) := rfl
theorem aslZeropage (z : Byte) : Statement (.aslZeropage z) := rfl
theorem aslZeropageX (z : Byte) : Statement (.aslZeropageX z) := rfl
theorem aslAbsolute (w : Word) : Statement (.aslAbsolute w) := rfl
theorem aslAbsoluteX (w : Word) : Statement (.aslAbsoluteX w) := rfl
theorem aslAccumulator : Statement .aslAccumulator := rfl
theorem lsrZeropage (z : Byte) : Statement (.lsrZeropage z) := rfl
theorem lsrZeropageX (z : Byte) : Statement (.lsrZeropageX z) := rfl
theorem lsrAbsolute (w : Word) : Statement (.lsrAbsolute w) := rfl
theorem lsrAbsoluteX (w : Word) : Statement (.lsrAbsoluteX w) := rfl
theorem lsrAccumulator : Statement .lsrAccumulator := rfl
theorem rolZeropage (z : Byte) : Statement (.rolZeropage z) := rfl
theorem rolZeropageX (z : Byte) : Statement (.rolZeropageX z) := rfl
theorem rolAbsolute (w : Word) : Statement (.rolAbsolute w) := rfl
theorem rolAbsoluteX (w : Word) : Statement (.rolAbsoluteX w) := rfl
theorem rolAccumulator : Statement .rolAccumulator := rfl
theorem rorZeropage (z : Byte) : Statement (.rorZeropage z) := rfl
theorem rorZeropageX (z : Byte) : Statement (.rorZeropageX z) := rfl
theorem rorAbsolute (w : Word) : Statement (.rorAbsolute w) := rfl
theorem rorAbsoluteX (w : Word) : Statement (.rorAbsoluteX w) := rfl
theorem rorAccumulator : Statement .rorAccumulator := rfl
theorem cmpImmediate (v : Byte) : Statement (.cmpImmediate v) := rfl
theorem cmpZeropage (z : Byte) : Statement (.cmpZeropage z) := rfl
theorem cmpZeropageX (z : Byte) : Statement (.cmpZeropageX z) := rfl
theorem cmpAbsolute (w : Word) : Statement (.cmpAbsolute w) := rfl
theorem cmpAbsoluteX (w : Word) : Statement (.cmpAbsoluteX w) := rfl
theorem cmpAbsoluteY (w : Word) : Statement (.cmpAbsoluteY w) := rfl
theorem cmpXIndirect (z : Byte) : Statement (.cmpXIndirect z) := rfl
theorem cmpIndirectY (z : Byte) : Statement (.cmpIndirectY z) := rfl
theorem cpxImmediate (v : Byte) : Statement (.cpxImmediate v) := rfl
theorem cpxZeropage (z : Byte) : Statement (.cpxZeropage z) := rfl
theorem cpxAbsolute (w : Word) : Statement (.cpxAbsolute w) := rfl
theorem cpyImmediate (v : Byte) : Statement (.cpyImmediate v) := rfl
theorem cpyZeropage (z : Byte) : Statement (.cpyZeropage z) := rfl
theorem cpyAbsolute (w : Word) : Statement (.cpyAbsolute w) := rfl
theorem bitZeropage (z : Byte) : Statement (.bitZeropage z) := rfl
theorem bitAbsolute (w : Word) : Statement (.bitAbsolute w) := rfl
theorem bcc (d : Int) : Statement (.bcc d) := rfl
theorem bcs (d : Int) : Statement (.bcs d) := rfl
theorem beq (d : Int) : Statement (.beq d) := rfl
theorem bne (d : Int) : Statement (.bne d) := rfl
theorem bmi (d : Int) : Statement (.bmi d) := rfl
theorem bpl (d : Int) : Statement (.bpl d) := rfl
theorem bvc (d : Int) : Statement (.bvc d) := rfl
theorem bvs (d : Int) : Statement (.bvs d) := rfl
theorem incZeropage (z : Byte) : Statement (.incZeropage z) := rfl
theorem incZeropageX (z : Byte) : Statement (.incZeropageX z) := rfl
theorem incAbsolute (w : Word) : Statement (.incAbsolute w) := rfl
theorem incAbsoluteX (w : Word) : Statement (.incAbsoluteX w) := rfl
theorem decZeropage (z : Byte) : Statement (.decZeropage z) := rfl
theorem decZeropageX (z : Byte) : Statement (.decZeropageX z) := rfl
theorem decAbsolute (w : Word) : Statement (.decAbsolute w) := rfl
theorem decAbsoluteX (w : Word) : Statement (.decAbsoluteX w) := rfl
theorem inx : Statement .inx := rfl
theorem iny : Statement .iny := rfl
theorem dex : Statement .dex := rfl
theorem dey : Statement .dey := rfl
theorem ldaImmediate (v : Byte) : Statement (.ldaImmediate v) := rfl
theorem ldaZeropage (z : Byte) : Statement (.ldaZeropage z) := rfl
theorem ldaZeropageX (z : Byte) : Statement (.ldaZeropageX z) := rfl
theorem ldaAbsolute (w : Word) : Statement (.ldaAbsolute w) := rfl
theorem ldaAbsoluteX (w : Word) : Statement (.ldaAbsoluteX w) := rfl
theorem ldaAbsoluteY (w : Word) : Statement (.ldaAbsoluteY w) := rfl
theorem ldaXIndirect (z : Byte) : Statement (.ldaXIndirect z) := rfl
theorem ldaIndirectY (z : Byte) : Statement (.ldaIndirectY z) := rfl
theorem ldxImmediate (v : Byte) : Statement (.ldxImmediate v) := rfl
theorem ldxZeropage (z : Byte) : Statement (.ldxZeropage z) := rfl
theorem ldxZeropageY (z : Byte) : Statement (.ldxZeropageY z) := rfl
theorem ldxAbsolute (w : Word) : Statement (.ldxAbsolute w) := rfl
theorem ldxAbsoluteY (w : Word) : Statement (.ldxAbsoluteY w) := rfl
theorem ldyImmediate (v : Byte) : Statement (.ldyImmediate v) := rfl
theorem ldyZeropage (z : Byte) : Statement (.ldyZeropage z) := rfl
theorem ldyZeropageX (z : Byte) : Statement (.ldyZeropageX z) := rfl
theorem ldyAbsolute (w : Word) : Statement (.ldyAbsolute w) := rfl
theorem ldyAbsoluteX (w : Word) : Statement (.ldyAbsoluteX w) := rfl
theorem tax : Statement .tax := rfl
theorem tay : Statement .tay := rfl
theorem txa : Statement .txa := rfl
theorem tya : Statement .tya := rfl
theorem tsx : Statement .tsx := rfl
theorem txs : Statement .txs := rfl
theorem staZeropage (z : Byte) : Statement (.staZeropage z) := rfl
theorem staZeropageX (z : Byte) : Statement (.staZeropageX z) := rfl
theorem staAbsolute (w : Word) : Statement (.staAbsolute w) := rfl
theorem staAbsoluteX (w : Word) : Statement (.staAbsoluteX w) := rfl
theorem staAbsoluteY (w : Word) : Statement (.staAbsoluteY w) := rfl
theorem staXIndirect (z : Byte) : Statement (.staXIndirect z) := rfl
theorem staIndirectY (z : Byte) : Statement (.staIndirectY z) := rfl
theorem stxZeropage (z : Byte) : Statement (.stxZeropage z) := rfl
theorem stxZeropageY (z : Byte) : Statement (.stxZeropageY z) := rfl
theorem stxAbsolute (w : Word) : Statement (.stxAbsolute w) := rfl
theorem styZeropage (z : Byte) : Statement (.styZeropage z) := rfl
theorem styZeropageX (z : Byte) : Statement (.styZeropageX z) := rfl
theorem styAbsolute (w : Word) : Statement (.styAbsolute w) := rfl
theorem pha : Statement .pha := rfl
theorem php : Statement .php := rfl
theorem pla : Statement .pla := rfl
theorem plp : Statement .plp := rfl
theorem jsr (w : Word) : Statement (.jsr w) := rfl
theorem rts : Statement .rts := rfl
theorem rti : Statement .rti := rfl
theorem brk : Statement .brk := rfl
theorem jmpAbsolute (w : Word) : Statement (.jmpAbsolute w) := rfl
theorem jmpIndirect (w : Word) : Statement (.jmpIndirect w) := rfl
theorem sec : Statement .sec := rfl
theorem clc : Statement .clc := rfl
theorem sei : Statement .sei := rfl
theorem cli : Statement .cli := rfl
theorem sed : Statement .sed := rfl
theorem cld : Statement .cld := rfl
theorem clv : Statement .clv := rfl
theorem nop : Statement .nop := rfl

end Sys2Proof.Laws.Length
end

