-- ==== Sys2Proof/Tests/Slice0.lean ====
section
/-! SUPPORT. Tests/Slice0.lean: every constructor's decoding, the WellFormed smoke tests, vectors of spec/95_test_vectors.md,
and a witness for the hypotheses of every statement that has some. -/

namespace Sys2Proof.Tests

open Sys2Proof Sys2Proof.Machine

-- One theorem at a time: each kernel evaluation running at once would hold a thread stack of its own.
set_option Elab.async false

/-! ### WellFormed: the one check, refused on both sides of its range, and its boundary values -/

theorem test_wf_refuses_displacement_128 : (Instr.beq 128).wellFormed = false := by decide
theorem test_wf_refuses_displacement_minus_129 : (Instr.bvs (-129)).wellFormed = false := by decide
theorem test_wf_accepts_displacement_127 : (Instr.bne 127).wellFormed = true := by decide
theorem test_wf_accepts_displacement_minus_128 : (Instr.bcc (-128)).wellFormed = true := by decide

/-! ### Decoding: every opcode of the map of R93, its word written out from R90, R92 and R93. The first byte is the
word's low byte; the operand byte is 0xA5 (0x80 for a displacement), the address 0x1234. -/

theorem test_decode_row_0 :
    decodeTableWord 8 0x00 = some .brk ∧
    decodeTableWord 16 0xA501 = some (.oraXIndirect 0xA5#8) ∧
    decodeTableWord 16 0xA505 = some (.oraZeropage 0xA5#8) ∧
    decodeTableWord 16 0xA506 = some (.aslZeropage 0xA5#8) ∧
    decodeTableWord 8 0x08 = some .php ∧
    decodeTableWord 16 0xA509 = some (.oraImmediate 0xA5#8) ∧
    decodeTableWord 8 0x0A = some .aslAccumulator ∧
    decodeTableWord 24 0x12340D = some (.oraAbsolute 0x1234#16) ∧
    decodeTableWord 24 0x12340E = some (.aslAbsolute 0x1234#16) := by decide +kernel

theorem test_decode_row_1 :
    decodeTableWord 16 0x8010 = some (.bpl (-128)) ∧
    decodeTableWord 16 0xA511 = some (.oraIndirectY 0xA5#8) ∧
    decodeTableWord 16 0xA515 = some (.oraZeropageX 0xA5#8) ∧
    decodeTableWord 16 0xA516 = some (.aslZeropageX 0xA5#8) ∧
    decodeTableWord 8 0x18 = some .clc ∧
    decodeTableWord 24 0x123419 = some (.oraAbsoluteY 0x1234#16) ∧
    decodeTableWord 24 0x12341D = some (.oraAbsoluteX 0x1234#16) ∧
    decodeTableWord 24 0x12341E = some (.aslAbsoluteX 0x1234#16) := by decide +kernel

theorem test_decode_row_2 :
    decodeTableWord 24 0x123420 = some (.jsr 0x1234#16) ∧
    decodeTableWord 16 0xA521 = some (.andXIndirect 0xA5#8) ∧
    decodeTableWord 16 0xA524 = some (.bitZeropage 0xA5#8) ∧
    decodeTableWord 16 0xA525 = some (.andZeropage 0xA5#8) ∧
    decodeTableWord 16 0xA526 = some (.rolZeropage 0xA5#8) ∧
    decodeTableWord 8 0x28 = some .plp ∧
    decodeTableWord 16 0xA529 = some (.andImmediate 0xA5#8) ∧
    decodeTableWord 8 0x2A = some .rolAccumulator ∧
    decodeTableWord 24 0x12342C = some (.bitAbsolute 0x1234#16) ∧
    decodeTableWord 24 0x12342D = some (.andAbsolute 0x1234#16) ∧
    decodeTableWord 24 0x12342E = some (.rolAbsolute 0x1234#16) := by decide +kernel

theorem test_decode_row_3 :
    decodeTableWord 16 0x8030 = some (.bmi (-128)) ∧
    decodeTableWord 16 0xA531 = some (.andIndirectY 0xA5#8) ∧
    decodeTableWord 16 0xA535 = some (.andZeropageX 0xA5#8) ∧
    decodeTableWord 16 0xA536 = some (.rolZeropageX 0xA5#8) ∧
    decodeTableWord 8 0x38 = some .sec ∧
    decodeTableWord 24 0x123439 = some (.andAbsoluteY 0x1234#16) ∧
    decodeTableWord 24 0x12343D = some (.andAbsoluteX 0x1234#16) ∧
    decodeTableWord 24 0x12343E = some (.rolAbsoluteX 0x1234#16) := by decide +kernel

theorem test_decode_row_4 :
    decodeTableWord 8 0x40 = some .rti ∧
    decodeTableWord 16 0xA541 = some (.eorXIndirect 0xA5#8) ∧
    decodeTableWord 16 0xA545 = some (.eorZeropage 0xA5#8) ∧
    decodeTableWord 16 0xA546 = some (.lsrZeropage 0xA5#8) ∧
    decodeTableWord 8 0x48 = some .pha ∧
    decodeTableWord 16 0xA549 = some (.eorImmediate 0xA5#8) ∧
    decodeTableWord 8 0x4A = some .lsrAccumulator ∧
    decodeTableWord 24 0x12344C = some (.jmpAbsolute 0x1234#16) ∧
    decodeTableWord 24 0x12344D = some (.eorAbsolute 0x1234#16) ∧
    decodeTableWord 24 0x12344E = some (.lsrAbsolute 0x1234#16) := by decide +kernel

theorem test_decode_row_5 :
    decodeTableWord 16 0x8050 = some (.bvc (-128)) ∧
    decodeTableWord 16 0xA551 = some (.eorIndirectY 0xA5#8) ∧
    decodeTableWord 16 0xA555 = some (.eorZeropageX 0xA5#8) ∧
    decodeTableWord 16 0xA556 = some (.lsrZeropageX 0xA5#8) ∧
    decodeTableWord 8 0x58 = some .cli ∧
    decodeTableWord 24 0x123459 = some (.eorAbsoluteY 0x1234#16) ∧
    decodeTableWord 24 0x12345D = some (.eorAbsoluteX 0x1234#16) ∧
    decodeTableWord 24 0x12345E = some (.lsrAbsoluteX 0x1234#16) := by decide +kernel

theorem test_decode_row_6 :
    decodeTableWord 8 0x60 = some .rts ∧
    decodeTableWord 16 0xA561 = some (.adcXIndirect 0xA5#8) ∧
    decodeTableWord 16 0xA565 = some (.adcZeropage 0xA5#8) ∧
    decodeTableWord 16 0xA566 = some (.rorZeropage 0xA5#8) ∧
    decodeTableWord 8 0x68 = some .pla ∧
    decodeTableWord 16 0xA569 = some (.adcImmediate 0xA5#8) ∧
    decodeTableWord 8 0x6A = some .rorAccumulator ∧
    decodeTableWord 24 0x12346C = some (.jmpIndirect 0x1234#16) ∧
    decodeTableWord 24 0x12346D = some (.adcAbsolute 0x1234#16) ∧
    decodeTableWord 24 0x12346E = some (.rorAbsolute 0x1234#16) := by decide +kernel

theorem test_decode_row_7 :
    decodeTableWord 16 0x8070 = some (.bvs (-128)) ∧
    decodeTableWord 16 0xA571 = some (.adcIndirectY 0xA5#8) ∧
    decodeTableWord 16 0xA575 = some (.adcZeropageX 0xA5#8) ∧
    decodeTableWord 16 0xA576 = some (.rorZeropageX 0xA5#8) ∧
    decodeTableWord 8 0x78 = some .sei ∧
    decodeTableWord 24 0x123479 = some (.adcAbsoluteY 0x1234#16) ∧
    decodeTableWord 24 0x12347D = some (.adcAbsoluteX 0x1234#16) ∧
    decodeTableWord 24 0x12347E = some (.rorAbsoluteX 0x1234#16) := by decide +kernel

theorem test_decode_row_8 :
    decodeTableWord 16 0xA581 = some (.staXIndirect 0xA5#8) ∧
    decodeTableWord 16 0xA584 = some (.styZeropage 0xA5#8) ∧
    decodeTableWord 16 0xA585 = some (.staZeropage 0xA5#8) ∧
    decodeTableWord 16 0xA586 = some (.stxZeropage 0xA5#8) ∧
    decodeTableWord 8 0x88 = some .dey ∧
    decodeTableWord 8 0x8A = some .txa ∧
    decodeTableWord 24 0x12348C = some (.styAbsolute 0x1234#16) ∧
    decodeTableWord 24 0x12348D = some (.staAbsolute 0x1234#16) ∧
    decodeTableWord 24 0x12348E = some (.stxAbsolute 0x1234#16) := by decide +kernel

theorem test_decode_row_9 :
    decodeTableWord 16 0x8090 = some (.bcc (-128)) ∧
    decodeTableWord 16 0xA591 = some (.staIndirectY 0xA5#8) ∧
    decodeTableWord 16 0xA594 = some (.styZeropageX 0xA5#8) ∧
    decodeTableWord 16 0xA595 = some (.staZeropageX 0xA5#8) ∧
    decodeTableWord 16 0xA596 = some (.stxZeropageY 0xA5#8) ∧
    decodeTableWord 8 0x98 = some .tya ∧
    decodeTableWord 24 0x123499 = some (.staAbsoluteY 0x1234#16) ∧
    decodeTableWord 8 0x9A = some .txs ∧
    decodeTableWord 24 0x12349D = some (.staAbsoluteX 0x1234#16) := by decide +kernel

theorem test_decode_row_A :
    decodeTableWord 16 0xA5A0 = some (.ldyImmediate 0xA5#8) ∧
    decodeTableWord 16 0xA5A1 = some (.ldaXIndirect 0xA5#8) ∧
    decodeTableWord 16 0xA5A2 = some (.ldxImmediate 0xA5#8) ∧
    decodeTableWord 16 0xA5A4 = some (.ldyZeropage 0xA5#8) ∧
    decodeTableWord 16 0xA5A5 = some (.ldaZeropage 0xA5#8) ∧
    decodeTableWord 16 0xA5A6 = some (.ldxZeropage 0xA5#8) ∧
    decodeTableWord 8 0xA8 = some .tay ∧
    decodeTableWord 16 0xA5A9 = some (.ldaImmediate 0xA5#8) ∧
    decodeTableWord 8 0xAA = some .tax ∧
    decodeTableWord 24 0x1234AC = some (.ldyAbsolute 0x1234#16) ∧
    decodeTableWord 24 0x1234AD = some (.ldaAbsolute 0x1234#16) ∧
    decodeTableWord 24 0x1234AE = some (.ldxAbsolute 0x1234#16) := by decide +kernel

theorem test_decode_row_B :
    decodeTableWord 16 0x80B0 = some (.bcs (-128)) ∧
    decodeTableWord 16 0xA5B1 = some (.ldaIndirectY 0xA5#8) ∧
    decodeTableWord 16 0xA5B4 = some (.ldyZeropageX 0xA5#8) ∧
    decodeTableWord 16 0xA5B5 = some (.ldaZeropageX 0xA5#8) ∧
    decodeTableWord 16 0xA5B6 = some (.ldxZeropageY 0xA5#8) ∧
    decodeTableWord 8 0xB8 = some .clv ∧
    decodeTableWord 24 0x1234B9 = some (.ldaAbsoluteY 0x1234#16) ∧
    decodeTableWord 8 0xBA = some .tsx ∧
    decodeTableWord 24 0x1234BC = some (.ldyAbsoluteX 0x1234#16) ∧
    decodeTableWord 24 0x1234BD = some (.ldaAbsoluteX 0x1234#16) ∧
    decodeTableWord 24 0x1234BE = some (.ldxAbsoluteY 0x1234#16) := by decide +kernel

theorem test_decode_row_C :
    decodeTableWord 16 0xA5C0 = some (.cpyImmediate 0xA5#8) ∧
    decodeTableWord 16 0xA5C1 = some (.cmpXIndirect 0xA5#8) ∧
    decodeTableWord 16 0xA5C4 = some (.cpyZeropage 0xA5#8) ∧
    decodeTableWord 16 0xA5C5 = some (.cmpZeropage 0xA5#8) ∧
    decodeTableWord 16 0xA5C6 = some (.decZeropage 0xA5#8) ∧
    decodeTableWord 8 0xC8 = some .iny ∧
    decodeTableWord 16 0xA5C9 = some (.cmpImmediate 0xA5#8) ∧
    decodeTableWord 8 0xCA = some .dex ∧
    decodeTableWord 24 0x1234CC = some (.cpyAbsolute 0x1234#16) ∧
    decodeTableWord 24 0x1234CD = some (.cmpAbsolute 0x1234#16) ∧
    decodeTableWord 24 0x1234CE = some (.decAbsolute 0x1234#16) := by decide +kernel

theorem test_decode_row_D :
    decodeTableWord 16 0x80D0 = some (.bne (-128)) ∧
    decodeTableWord 16 0xA5D1 = some (.cmpIndirectY 0xA5#8) ∧
    decodeTableWord 16 0xA5D5 = some (.cmpZeropageX 0xA5#8) ∧
    decodeTableWord 16 0xA5D6 = some (.decZeropageX 0xA5#8) ∧
    decodeTableWord 8 0xD8 = some .cld ∧
    decodeTableWord 24 0x1234D9 = some (.cmpAbsoluteY 0x1234#16) ∧
    decodeTableWord 24 0x1234DD = some (.cmpAbsoluteX 0x1234#16) ∧
    decodeTableWord 24 0x1234DE = some (.decAbsoluteX 0x1234#16) := by decide +kernel

theorem test_decode_row_E :
    decodeTableWord 16 0xA5E0 = some (.cpxImmediate 0xA5#8) ∧
    decodeTableWord 16 0xA5E1 = some (.sbcXIndirect 0xA5#8) ∧
    decodeTableWord 16 0xA5E4 = some (.cpxZeropage 0xA5#8) ∧
    decodeTableWord 16 0xA5E5 = some (.sbcZeropage 0xA5#8) ∧
    decodeTableWord 16 0xA5E6 = some (.incZeropage 0xA5#8) ∧
    decodeTableWord 8 0xE8 = some .inx ∧
    decodeTableWord 16 0xA5E9 = some (.sbcImmediate 0xA5#8) ∧
    decodeTableWord 8 0xEA = some .nop ∧
    decodeTableWord 24 0x1234EC = some (.cpxAbsolute 0x1234#16) ∧
    decodeTableWord 24 0x1234ED = some (.sbcAbsolute 0x1234#16) ∧
    decodeTableWord 24 0x1234EE = some (.incAbsolute 0x1234#16) := by decide +kernel

theorem test_decode_row_F :
    decodeTableWord 16 0x80F0 = some (.beq (-128)) ∧
    decodeTableWord 16 0xA5F1 = some (.sbcIndirectY 0xA5#8) ∧
    decodeTableWord 16 0xA5F5 = some (.sbcZeropageX 0xA5#8) ∧
    decodeTableWord 16 0xA5F6 = some (.incZeropageX 0xA5#8) ∧
    decodeTableWord 8 0xF8 = some .sed ∧
    decodeTableWord 24 0x1234F9 = some (.sbcAbsoluteY 0x1234#16) ∧
    decodeTableWord 24 0x1234FD = some (.sbcAbsoluteX 0x1234#16) ∧
    decodeTableWord 24 0x1234FE = some (.incAbsoluteX 0x1234#16) := by decide +kernel

/-! ### Vectors of spec/95_test_vectors.md, under the vector's own number: one step each. The start state is given as the
open parameter, A X Y SP PC P, and cells of memory; the result as A X Y SP PC P, the cycles, and the bytes listed. -/

/-- A Running state with the registers, the flags of a status byte and the cells given. -/
def start (wrap : Bool) (a x y sp : Byte) (pc : Word) (p : Byte) (cells : List (Word × Byte)) : State :=
  { State.reset with
    a := a, x := x, y := y, sp := sp, pc := pc, flags := Flags.ofByte p, cfg := { jmpIndPageWrap := wrap }
    mem := cells.foldl (fun m c => m.write c.1 c.2) [] }

/-- A X Y SP PC P, the cycles, and some bytes of memory. -/
structure Seen where
  a : Byte
  x : Byte
  y : Byte
  sp : Byte
  pc : Word
  p : Byte
  cycles : Nat
  bytes : List Byte
  deriving DecidableEq, Repr

/-- What a step leaves in the registers, the cycle counter and the bytes at the given addresses. -/
def after (s : State) (addrs : List Word) : Option Seen :=
  match step s with
  | .next t => some ⟨t.a, t.x, t.y, t.sp, t.pc, t.flags.toByte, t.cycles, addrs.map t.read⟩
  | .fault _ => none
  | .refused _ => none

theorem test_V25_adc_immediate :
    after (start false 0x80#8 0x00#8 0x00#8 0xFD#8 0x8000#16 0x24#8
      [(0x8000#16, 0x69#8), (0x8001#16, 0xFF#8)]) [] =
    some ⟨0x7F#8, 0x00#8, 0x00#8, 0xFD#8, 0x8002#16, 0x65#8, 2, []⟩ := by decide +kernel

theorem test_V30_adc_absolute :
    after (start false 0x10#8 0x00#8 0x00#8 0xFD#8 0x8000#16 0x25#8
      [(0x0200#16, 0x20#8), (0x8000#16, 0x6D#8), (0x8001#16, 0x00#8), (0x8002#16, 0x02#8)]) [] =
    some ⟨0x31#8, 0x00#8, 0x00#8, 0xFD#8, 0x8003#16, 0x24#8, 4, []⟩ := by decide +kernel

theorem test_V36_sbc_immediate :
    after (start false 0x80#8 0x00#8 0x00#8 0xFD#8 0x8000#16 0x25#8
      [(0x8000#16, 0xE9#8), (0x8001#16, 0x01#8)]) [] =
    some ⟨0x7F#8, 0x00#8, 0x00#8, 0xFD#8, 0x8002#16, 0x65#8, 2, []⟩ := by decide +kernel

theorem test_V40_sbc_absolute_y :
    after (start false 0x10#8 0x00#8 0x01#8 0xFD#8 0x8000#16 0x25#8
      [(0x1100#16, 0x10#8), (0x8000#16, 0xF9#8), (0x8001#16, 0xFF#8), (0x8002#16, 0x10#8)]) [] =
    some ⟨0x00#8, 0x00#8, 0x01#8, 0xFD#8, 0x8003#16, 0x27#8, 5, []⟩ := by decide +kernel

theorem test_V41_and_immediate :
    after (start false 0xF3#8 0x00#8 0x00#8 0xFD#8 0x8000#16 0x65#8
      [(0x8000#16, 0x29#8), (0x8001#16, 0x0F#8)]) [] =
    some ⟨0x03#8, 0x00#8, 0x00#8, 0xFD#8, 0x8002#16, 0x65#8, 2, []⟩ := by decide +kernel

theorem test_V48_and_zeropage_x :
    after (start false 0xFF#8 0x01#8 0x00#8 0xFD#8 0x8000#16 0x24#8
      [(0x0011#16, 0x3C#8), (0x8000#16, 0x35#8), (0x8001#16, 0x10#8)]) [] =
    some ⟨0x3C#8, 0x01#8, 0x00#8, 0xFD#8, 0x8002#16, 0x24#8, 4, []⟩ := by decide +kernel

theorem test_V45_ora_immediate :
    after (start false 0x0F#8 0x00#8 0x00#8 0xFD#8 0x8000#16 0x24#8
      [(0x8000#16, 0x09#8), (0x8001#16, 0xF0#8)]) [] =
    some ⟨0xFF#8, 0x00#8, 0x00#8, 0xFD#8, 0x8002#16, 0xA4#8, 2, []⟩ := by decide +kernel

theorem test_V49_ora_indirect_y :
    after (start false 0x01#8 0x00#8 0x01#8 0xFD#8 0x8000#16 0x24#8
      [(0x0020#16, 0xFF#8), (0x0021#16, 0x00#8), (0x0100#16, 0x80#8), (0x8000#16, 0x11#8), (0x8001#16, 0x20#8)]) [] =
    some ⟨0x81#8, 0x00#8, 0x01#8, 0xFD#8, 0x8002#16, 0xA4#8, 6, []⟩ := by decide +kernel

theorem test_V46_eor_immediate :
    after (start false 0xFF#8 0x00#8 0x00#8 0xFD#8 0x8000#16 0x24#8
      [(0x8000#16, 0x49#8), (0x8001#16, 0xFF#8)]) [] =
    some ⟨0x00#8, 0x00#8, 0x00#8, 0xFD#8, 0x8002#16, 0x26#8, 2, []⟩ := by decide +kernel

theorem test_V47_eor_immediate :
    after (start false 0x0F#8 0x00#8 0x00#8 0xFD#8 0x8000#16 0x24#8
      [(0x8000#16, 0x49#8), (0x8001#16, 0xFF#8)]) [] =
    some ⟨0xF0#8, 0x00#8, 0x00#8, 0xFD#8, 0x8002#16, 0xA4#8, 2, []⟩ := by decide +kernel

theorem test_V50_asl_accumulator :
    after (start false 0x81#8 0x00#8 0x00#8 0xFD#8 0x8000#16 0x24#8
      [(0x8000#16, 0x0A#8)]) [] =
    some ⟨0x02#8, 0x00#8, 0x00#8, 0xFD#8, 0x8001#16, 0x25#8, 2, []⟩ := by decide +kernel

theorem test_V53_asl_absolute_x :
    after (start false 0x00#8 0x20#8 0x00#8 0xFD#8 0x8000#16 0x24#8
      [(0x1310#16, 0x01#8), (0x8000#16, 0x1E#8), (0x8001#16, 0xF0#8), (0x8002#16, 0x12#8)]) [0x1310#16] =
    some ⟨0x00#8, 0x20#8, 0x00#8, 0xFD#8, 0x8003#16, 0x24#8, 7, [0x02#8]⟩ := by decide +kernel

theorem test_V55_lsr_accumulator :
    after (start false 0xFE#8 0x00#8 0x00#8 0xFD#8 0x8000#16 0xA4#8
      [(0x8000#16, 0x4A#8)]) [] =
    some ⟨0x7F#8, 0x00#8, 0x00#8, 0xFD#8, 0x8001#16, 0x24#8, 2, []⟩ := by decide +kernel

theorem test_V56_lsr_absolute :
    after (start false 0x00#8 0x00#8 0x00#8 0xFD#8 0x8000#16 0x24#8
      [(0x0200#16, 0xFF#8), (0x8000#16, 0x4E#8), (0x8001#16, 0x00#8), (0x8002#16, 0x02#8)]) [0x0200#16] =
    some ⟨0x00#8, 0x00#8, 0x00#8, 0xFD#8, 0x8003#16, 0x25#8, 6, [0x7F#8]⟩ := by decide +kernel

theorem test_V57_rol_accumulator :
    after (start false 0x80#8 0x00#8 0x00#8 0xFD#8 0x8000#16 0x25#8
      [(0x8000#16, 0x2A#8)]) [] =
    some ⟨0x01#8, 0x00#8, 0x00#8, 0xFD#8, 0x8001#16, 0x25#8, 2, []⟩ := by decide +kernel

theorem test_V59_rol_zeropage :
    after (start false 0x00#8 0x00#8 0x00#8 0xFD#8 0x8000#16 0x25#8
      [(0x0010#16, 0xFF#8), (0x8000#16, 0x26#8), (0x8001#16, 0x10#8)]) [] =
    some ⟨0x00#8, 0x00#8, 0x00#8, 0xFD#8, 0x8002#16, 0xA5#8, 5, []⟩ := by decide +kernel

theorem test_V60_ror_accumulator :
    after (start false 0x01#8 0x00#8 0x00#8 0xFD#8 0x8000#16 0x25#8
      [(0x8000#16, 0x6A#8)]) [] =
    some ⟨0x80#8, 0x00#8, 0x00#8, 0xFD#8, 0x8001#16, 0xA5#8, 2, []⟩ := by decide +kernel

theorem test_V62_ror_zeropage_x :
    after (start false 0x00#8 0x02#8 0x00#8 0xFD#8 0x8000#16 0x25#8
      [(0x0001#16, 0x02#8), (0x8000#16, 0x76#8), (0x8001#16, 0xFF#8)]) [0x0001#16] =
    some ⟨0x00#8, 0x02#8, 0x00#8, 0xFD#8, 0x8002#16, 0xA4#8, 6, [0x81#8]⟩ := by decide +kernel

theorem test_V67_cmp_immediate :
    after (start false 0x00#8 0x00#8 0x00#8 0xFD#8 0x8000#16 0x24#8
      [(0x8000#16, 0xC9#8), (0x8001#16, 0xFF#8)]) [] =
    some ⟨0x00#8, 0x00#8, 0x00#8, 0xFD#8, 0x8002#16, 0x24#8, 2, []⟩ := by decide +kernel

theorem test_V69_cmp_immediate :
    after (start false 0x80#8 0x00#8 0x00#8 0xFD#8 0x8000#16 0x24#8
      [(0x8000#16, 0xC9#8), (0x8001#16, 0x01#8)]) [] =
    some ⟨0x80#8, 0x00#8, 0x00#8, 0xFD#8, 0x8002#16, 0x25#8, 2, []⟩ := by decide +kernel

theorem test_V72_cpx_absolute :
    after (start false 0x00#8 0x04#8 0x00#8 0xFD#8 0x8000#16 0x24#8
      [(0x0200#16, 0x05#8), (0x8000#16, 0xEC#8), (0x8001#16, 0x00#8), (0x8002#16, 0x02#8)]) [] =
    some ⟨0x00#8, 0x04#8, 0x00#8, 0xFD#8, 0x8003#16, 0xA4#8, 4, []⟩ := by decide +kernel

theorem test_V74_cpy_absolute :
    after (start false 0x00#8 0x00#8 0x90#8 0xFD#8 0x8000#16 0x24#8
      [(0x0200#16, 0x10#8), (0x8000#16, 0xCC#8), (0x8001#16, 0x00#8), (0x8002#16, 0x02#8)]) [] =
    some ⟨0x00#8, 0x00#8, 0x90#8, 0xFD#8, 0x8003#16, 0xA5#8, 4, []⟩ := by decide +kernel

theorem test_V75_bit_zeropage :
    after (start false 0x00#8 0x00#8 0x00#8 0xFD#8 0x8000#16 0x24#8
      [(0x0010#16, 0xC0#8), (0x8000#16, 0x24#8), (0x8001#16, 0x10#8)]) [] =
    some ⟨0x00#8, 0x00#8, 0x00#8, 0xFD#8, 0x8002#16, 0xE6#8, 3, []⟩ := by decide +kernel

theorem test_V76_bit_zeropage :
    after (start false 0x01#8 0x00#8 0x00#8 0xFD#8 0x8000#16 0xE6#8
      [(0x0010#16, 0x3F#8), (0x8000#16, 0x24#8), (0x8001#16, 0x10#8)]) [] =
    some ⟨0x01#8, 0x00#8, 0x00#8, 0xFD#8, 0x8002#16, 0x24#8, 3, []⟩ := by decide +kernel

theorem test_V78_bcc_relative :
    after (start false 0x00#8 0x00#8 0x00#8 0xFD#8 0x8000#16 0x24#8
      [(0x8000#16, 0x90#8), (0x8001#16, 0x10#8)]) [] =
    some ⟨0x00#8, 0x00#8, 0x00#8, 0xFD#8, 0x8012#16, 0x24#8, 3, []⟩ := by decide +kernel

theorem test_V79_bcc_relative :
    after (start false 0x00#8 0x00#8 0x00#8 0xFD#8 0x8000#16 0x25#8
      [(0x8000#16, 0x90#8), (0x8001#16, 0x10#8)]) [] =
    some ⟨0x00#8, 0x00#8, 0x00#8, 0xFD#8, 0x8002#16, 0x25#8, 2, []⟩ := by decide +kernel

theorem test_V80_bcs_relative :
    after (start false 0x00#8 0x00#8 0x00#8 0xFD#8 0x8000#16 0x25#8
      [(0x8000#16, 0xB0#8), (0x8001#16, 0x10#8)]) [] =
    some ⟨0x00#8, 0x00#8, 0x00#8, 0xFD#8, 0x8012#16, 0x25#8, 3, []⟩ := by decide +kernel

theorem test_V81_bcs_relative :
    after (start false 0x00#8 0x00#8 0x00#8 0xFD#8 0x8000#16 0x24#8
      [(0x8000#16, 0xB0#8), (0x8001#16, 0x10#8)]) [] =
    some ⟨0x00#8, 0x00#8, 0x00#8, 0xFD#8, 0x8002#16, 0x24#8, 2, []⟩ := by decide +kernel

theorem test_V4_beq_relative :
    after (start false 0x00#8 0x00#8 0x00#8 0xFD#8 0x800E#16 0x26#8
      [(0x800E#16, 0xF0#8), (0x800F#16, 0xFE#8)]) [] =
    some ⟨0x00#8, 0x00#8, 0x00#8, 0xFD#8, 0x800E#16, 0x26#8, 3, []⟩ := by decide +kernel

theorem test_V83_beq_relative :
    after (start false 0x00#8 0x00#8 0x00#8 0xFD#8 0x8000#16 0x24#8
      [(0x8000#16, 0xF0#8), (0x8001#16, 0x10#8)]) [] =
    some ⟨0x00#8, 0x00#8, 0x00#8, 0xFD#8, 0x8002#16, 0x24#8, 2, []⟩ := by decide +kernel

theorem test_V94_bne_relative :
    after (start false 0x00#8 0x00#8 0x00#8 0xFD#8 0x80FD#16 0x24#8
      [(0x80FD#16, 0xD0#8), (0x80FE#16, 0x02#8)]) [] =
    some ⟨0x00#8, 0x00#8, 0x00#8, 0xFD#8, 0x8101#16, 0x24#8, 4, []⟩ := by decide +kernel

theorem test_V95_bne_relative :
    after (start false 0x00#8 0x00#8 0x00#8 0xFD#8 0x8100#16 0x24#8
      [(0x8100#16, 0xD0#8), (0x8101#16, 0xFD#8)]) [] =
    some ⟨0x00#8, 0x00#8, 0x00#8, 0xFD#8, 0x80FF#16, 0x24#8, 4, []⟩ := by decide +kernel

theorem test_V87_bmi_relative :
    after (start false 0x00#8 0x00#8 0x00#8 0xFD#8 0x8000#16 0x24#8
      [(0x8000#16, 0x30#8), (0x8001#16, 0x10#8)]) [] =
    some ⟨0x00#8, 0x00#8, 0x00#8, 0xFD#8, 0x8002#16, 0x24#8, 2, []⟩ := by decide +kernel

theorem test_V100_bmi_relative :
    after (start false 0x00#8 0x00#8 0x00#8 0xFD#8 0x0002#16 0xA4#8
      [(0x0002#16, 0x30#8), (0x0003#16, 0xFB#8)]) [] =
    some ⟨0x00#8, 0x00#8, 0x00#8, 0xFD#8, 0xFFFF#16, 0xA4#8, 4, []⟩ := by decide +kernel

theorem test_V97_bpl_relative :
    after (start false 0x00#8 0x00#8 0x00#8 0xFD#8 0x8000#16 0x24#8
      [(0x8000#16, 0x10#8), (0x8001#16, 0x80#8)]) [] =
    some ⟨0x00#8, 0x00#8, 0x00#8, 0xFD#8, 0x7F82#16, 0x24#8, 4, []⟩ := by decide +kernel

theorem test_V99_bpl_relative :
    after (start false 0x00#8 0x00#8 0x00#8 0xFD#8 0xFFFE#16 0x24#8
      [(0xFFFE#16, 0x10#8), (0xFFFF#16, 0x05#8)]) [] =
    some ⟨0x00#8, 0x00#8, 0x00#8, 0xFD#8, 0x0005#16, 0x24#8, 3, []⟩ := by decide +kernel

theorem test_V90_bvc_relative :
    after (start false 0x00#8 0x00#8 0x00#8 0xFD#8 0x8000#16 0x24#8
      [(0x8000#16, 0x50#8), (0x8001#16, 0x10#8)]) [] =
    some ⟨0x00#8, 0x00#8, 0x00#8, 0xFD#8, 0x8012#16, 0x24#8, 3, []⟩ := by decide +kernel

theorem test_V91_bvc_relative :
    after (start false 0x00#8 0x00#8 0x00#8 0xFD#8 0x8000#16 0x64#8
      [(0x8000#16, 0x50#8), (0x8001#16, 0x10#8)]) [] =
    some ⟨0x00#8, 0x00#8, 0x00#8, 0xFD#8, 0x8002#16, 0x64#8, 2, []⟩ := by decide +kernel

theorem test_V92_bvs_relative :
    after (start false 0x00#8 0x00#8 0x00#8 0xFD#8 0x8000#16 0x64#8
      [(0x8000#16, 0x70#8), (0x8001#16, 0x10#8)]) [] =
    some ⟨0x00#8, 0x00#8, 0x00#8, 0xFD#8, 0x8012#16, 0x64#8, 3, []⟩ := by decide +kernel

theorem test_V93_bvs_relative :
    after (start false 0x00#8 0x00#8 0x00#8 0xFD#8 0x8000#16 0x24#8
      [(0x8000#16, 0x70#8), (0x8001#16, 0x10#8)]) [] =
    some ⟨0x00#8, 0x00#8, 0x00#8, 0xFD#8, 0x8002#16, 0x24#8, 2, []⟩ := by decide +kernel

theorem test_V101_inc_zeropage :
    after (start false 0x00#8 0x00#8 0x00#8 0xFD#8 0x8000#16 0x25#8
      [(0x0010#16, 0xFF#8), (0x8000#16, 0xE6#8), (0x8001#16, 0x10#8)]) [0x0010#16] =
    some ⟨0x00#8, 0x00#8, 0x00#8, 0xFD#8, 0x8002#16, 0x27#8, 5, [0x00#8]⟩ := by decide +kernel

theorem test_V102_inc_absolute_x :
    after (start false 0x00#8 0x01#8 0x00#8 0xFD#8 0x8000#16 0x24#8
      [(0x1100#16, 0x7F#8), (0x8000#16, 0xFE#8), (0x8001#16, 0xFF#8), (0x8002#16, 0x10#8)]) [0x1100#16] =
    some ⟨0x00#8, 0x01#8, 0x00#8, 0xFD#8, 0x8003#16, 0xA4#8, 7, [0x80#8]⟩ := by decide +kernel

theorem test_V103_dec_zeropage :
    after (start false 0x00#8 0x00#8 0x00#8 0xFD#8 0x8000#16 0x24#8
      [(0x0010#16, 0x00#8), (0x8000#16, 0xC6#8), (0x8001#16, 0x10#8)]) [0x0010#16] =
    some ⟨0x00#8, 0x00#8, 0x00#8, 0xFD#8, 0x8002#16, 0xA4#8, 5, [0xFF#8]⟩ := by decide +kernel

theorem test_V105_dec_zeropage_x :
    after (start false 0x00#8 0x11#8 0x00#8 0xFD#8 0x8000#16 0x24#8
      [(0x0010#16, 0x80#8), (0x8000#16, 0xD6#8), (0x8001#16, 0xFF#8)]) [0x0010#16] =
    some ⟨0x00#8, 0x11#8, 0x00#8, 0xFD#8, 0x8002#16, 0x24#8, 6, [0x7F#8]⟩ := by decide +kernel

theorem test_V106_inx_implied :
    after (start false 0x00#8 0xFF#8 0x00#8 0xFD#8 0x8000#16 0x24#8
      [(0x8000#16, 0xE8#8)]) [] =
    some ⟨0x00#8, 0x00#8, 0x00#8, 0xFD#8, 0x8001#16, 0x26#8, 2, []⟩ := by decide +kernel

theorem test_V107_iny_implied :
    after (start false 0x00#8 0x00#8 0x7F#8 0xFD#8 0x8000#16 0x24#8
      [(0x8000#16, 0xC8#8)]) [] =
    some ⟨0x00#8, 0x00#8, 0x80#8, 0xFD#8, 0x8001#16, 0xA4#8, 2, []⟩ := by decide +kernel

theorem test_V108_dex_implied :
    after (start false 0x00#8 0x00#8 0x00#8 0xFD#8 0x8000#16 0x24#8
      [(0x8000#16, 0xCA#8)]) [] =
    some ⟨0x00#8, 0xFF#8, 0x00#8, 0xFD#8, 0x8001#16, 0xA4#8, 2, []⟩ := by decide +kernel

theorem test_V109_dey_implied :
    after (start false 0x00#8 0x00#8 0x01#8 0xFD#8 0x8000#16 0x65#8
      [(0x8000#16, 0x88#8)]) [] =
    some ⟨0x00#8, 0x00#8, 0x00#8, 0xFD#8, 0x8001#16, 0x67#8, 2, []⟩ := by decide +kernel

theorem test_V7_lda_x_indirect :
    after (start false 0x00#8 0x00#8 0x00#8 0xFD#8 0x8000#16 0x24#8
      [(0x0000#16, 0x03#8), (0x00FF#16, 0x00#8), (0x0100#16, 0x04#8), (0x0300#16, 0x77#8), (0x0400#16, 0x66#8), (0x8000#16, 0xA1#8), (0x8001#16, 0xFF#8)]) [] =
    some ⟨0x77#8, 0x00#8, 0x00#8, 0xFD#8, 0x8002#16, 0x24#8, 6, []⟩ := by decide +kernel

theorem test_V19_lda_indirect_y :
    after (start false 0x00#8 0x00#8 0x00#8 0xFD#8 0x8000#16 0x24#8
      [(0x0000#16, 0x30#8), (0x00FF#16, 0x00#8), (0x0100#16, 0x40#8), (0x3000#16, 0x0B#8), (0x4000#16, 0x0C#8), (0x8000#16, 0xB1#8), (0x8001#16, 0xFF#8)]) [] =
    some ⟨0x0B#8, 0x00#8, 0x00#8, 0xFD#8, 0x8002#16, 0x24#8, 5, []⟩ := by decide +kernel

theorem test_V11_ldx_zeropage_y :
    after (start false 0x00#8 0x00#8 0x02#8 0xFD#8 0x8000#16 0x24#8
      [(0x0001#16, 0x81#8), (0x8000#16, 0xB6#8), (0x8001#16, 0xFF#8)]) [] =
    some ⟨0x00#8, 0x81#8, 0x02#8, 0xFD#8, 0x8002#16, 0xA4#8, 4, []⟩ := by decide +kernel

theorem test_V113_ldx_absolute_y :
    after (start false 0x00#8 0x00#8 0x01#8 0xFD#8 0x8000#16 0x24#8
      [(0x1300#16, 0x81#8), (0x8000#16, 0xBE#8), (0x8001#16, 0xFF#8), (0x8002#16, 0x12#8)]) [] =
    some ⟨0x00#8, 0x81#8, 0x01#8, 0xFD#8, 0x8003#16, 0xA4#8, 5, []⟩ := by decide +kernel

theorem test_V114_ldy_immediate :
    after (start false 0x00#8 0x00#8 0x00#8 0xFD#8 0x8000#16 0x24#8
      [(0x8000#16, 0xA0#8), (0x8001#16, 0x7F#8)]) [] =
    some ⟨0x00#8, 0x00#8, 0x7F#8, 0xFD#8, 0x8002#16, 0x24#8, 2, []⟩ := by decide +kernel

theorem test_V115_ldy_absolute_x :
    after (start false 0x00#8 0x10#8 0x00#8 0xFD#8 0x8000#16 0x24#8
      [(0x1290#16, 0x00#8), (0x8000#16, 0xBC#8), (0x8001#16, 0x80#8), (0x8002#16, 0x12#8)]) [] =
    some ⟨0x00#8, 0x10#8, 0x00#8, 0xFD#8, 0x8003#16, 0x26#8, 4, []⟩ := by decide +kernel

theorem test_V116_tax_implied :
    after (start false 0x80#8 0x00#8 0x00#8 0xFD#8 0x8000#16 0x24#8
      [(0x8000#16, 0xAA#8)]) [] =
    some ⟨0x80#8, 0x80#8, 0x00#8, 0xFD#8, 0x8001#16, 0xA4#8, 2, []⟩ := by decide +kernel

theorem test_V117_tay_implied :
    after (start false 0x00#8 0x00#8 0x05#8 0xFD#8 0x8000#16 0x24#8
      [(0x8000#16, 0xA8#8)]) [] =
    some ⟨0x00#8, 0x00#8, 0x00#8, 0xFD#8, 0x8001#16, 0x26#8, 2, []⟩ := by decide +kernel

theorem test_V118_txa_implied :
    after (start false 0x00#8 0xFF#8 0x00#8 0xFD#8 0x8000#16 0x24#8
      [(0x8000#16, 0x8A#8)]) [] =
    some ⟨0xFF#8, 0xFF#8, 0x00#8, 0xFD#8, 0x8001#16, 0xA4#8, 2, []⟩ := by decide +kernel

theorem test_V119_tya_implied :
    after (start false 0x12#8 0x00#8 0x00#8 0xFD#8 0x8000#16 0x24#8
      [(0x8000#16, 0x98#8)]) [] =
    some ⟨0x00#8, 0x00#8, 0x00#8, 0xFD#8, 0x8001#16, 0x26#8, 2, []⟩ := by decide +kernel

theorem test_V120_tsx_implied :
    after (start false 0x00#8 0x00#8 0x00#8 0xFD#8 0x8000#16 0x24#8
      [(0x8000#16, 0xBA#8)]) [] =
    some ⟨0x00#8, 0xFD#8, 0x00#8, 0xFD#8, 0x8001#16, 0xA4#8, 2, []⟩ := by decide +kernel

theorem test_V121_txs_implied :
    after (start false 0x00#8 0x00#8 0x00#8 0xFD#8 0x8000#16 0xA4#8
      [(0x8000#16, 0x9A#8)]) [] =
    some ⟨0x00#8, 0x00#8, 0x00#8, 0x00#8, 0x8001#16, 0xA4#8, 2, []⟩ := by decide +kernel

theorem test_V124_sta_indirect_y :
    after (start false 0x22#8 0x00#8 0x20#8 0xFD#8 0x8000#16 0x24#8
      [(0x0040#16, 0xF0#8), (0x0041#16, 0x12#8), (0x8000#16, 0x91#8), (0x8001#16, 0x40#8)]) [0x1310#16] =
    some ⟨0x22#8, 0x00#8, 0x20#8, 0xFD#8, 0x8002#16, 0x24#8, 6, [0x22#8]⟩ := by decide +kernel

theorem test_V125_sta_x_indirect :
    after (start false 0x33#8 0x01#8 0x00#8 0xFD#8 0x8000#16 0x24#8
      [(0x0000#16, 0x00#8), (0x0001#16, 0x03#8), (0x8000#16, 0x81#8), (0x8001#16, 0xFF#8)]) [0x0300#16] =
    some ⟨0x33#8, 0x01#8, 0x00#8, 0xFD#8, 0x8002#16, 0x24#8, 6, [0x33#8]⟩ := by decide +kernel

theorem test_V126_stx_zeropage_y :
    after (start false 0x00#8 0x44#8 0x02#8 0xFD#8 0x8000#16 0x24#8
      [(0x8000#16, 0x96#8), (0x8001#16, 0xFF#8)]) [0x0001#16] =
    some ⟨0x00#8, 0x44#8, 0x02#8, 0xFD#8, 0x8002#16, 0x24#8, 4, [0x44#8]⟩ := by decide +kernel

theorem test_V127_sty_absolute :
    after (start false 0x00#8 0x00#8 0x55#8 0xFD#8 0x8000#16 0x26#8
      [(0x8000#16, 0x8C#8), (0x8001#16, 0x00#8), (0x8002#16, 0x02#8)]) [0x0200#16] =
    some ⟨0x00#8, 0x00#8, 0x55#8, 0xFD#8, 0x8003#16, 0x26#8, 4, [0x55#8]⟩ := by decide +kernel

theorem test_V128_sty_zeropage_x :
    after (start false 0x00#8 0x03#8 0x66#8 0xFD#8 0x8000#16 0x24#8
      [(0x8000#16, 0x94#8), (0x8001#16, 0xFE#8)]) [0x0001#16] =
    some ⟨0x00#8, 0x03#8, 0x66#8, 0xFD#8, 0x8002#16, 0x24#8, 4, [0x66#8]⟩ := by decide +kernel

theorem test_V130_pha_implied :
    after (start false 0x42#8 0x00#8 0x00#8 0x00#8 0x8000#16 0x24#8
      [(0x8000#16, 0x48#8)]) [0x0100#16] =
    some ⟨0x42#8, 0x00#8, 0x00#8, 0xFF#8, 0x8001#16, 0x24#8, 3, [0x42#8]⟩ := by decide +kernel

theorem test_V134_php_implied :
    after (start false 0x00#8 0x00#8 0x00#8 0xFD#8 0x8000#16 0xA1#8
      [(0x8000#16, 0x08#8)]) [0x01FD#16] =
    some ⟨0x00#8, 0x00#8, 0x00#8, 0xFC#8, 0x8001#16, 0xA1#8, 3, [0xB1#8]⟩ := by decide +kernel

theorem test_V131_pla_implied :
    after (start false 0x00#8 0x00#8 0x00#8 0xFF#8 0x8000#16 0x24#8
      [(0x0100#16, 0x80#8), (0x8000#16, 0x68#8)]) [] =
    some ⟨0x80#8, 0x00#8, 0x00#8, 0x00#8, 0x8001#16, 0xA4#8, 4, []⟩ := by decide +kernel

theorem test_V132_pla_implied :
    after (start false 0x00#8 0x00#8 0x00#8 0xFC#8 0x8000#16 0x24#8
      [(0x01FD#16, 0x00#8), (0x8000#16, 0x68#8)]) [] =
    some ⟨0x00#8, 0x00#8, 0x00#8, 0xFD#8, 0x8001#16, 0x26#8, 4, []⟩ := by decide +kernel

theorem test_V135_plp_implied :
    after (start false 0x00#8 0x00#8 0x00#8 0xFC#8 0x8000#16 0x24#8
      [(0x01FD#16, 0xC3#8), (0x8000#16, 0x28#8)]) [] =
    some ⟨0x00#8, 0x00#8, 0x00#8, 0xFD#8, 0x8001#16, 0xE3#8, 4, []⟩ := by decide +kernel

theorem test_V137_plp_implied :
    after (start false 0x00#8 0x00#8 0x00#8 0xFC#8 0x8000#16 0x24#8
      [(0x01FD#16, 0xFF#8), (0x8000#16, 0x28#8)]) [] =
    some ⟨0x00#8, 0x00#8, 0x00#8, 0xFD#8, 0x8001#16, 0xFF#8, 4, []⟩ := by decide +kernel

theorem test_V138_jsr_absolute :
    after (start false 0x00#8 0x00#8 0x00#8 0xFD#8 0x8000#16 0x24#8
      [(0x8000#16, 0x20#8), (0x8001#16, 0x00#8), (0x8002#16, 0x90#8)]) [0x01FC#16, 0x01FD#16] =
    some ⟨0x00#8, 0x00#8, 0x00#8, 0xFB#8, 0x9000#16, 0x24#8, 6, [0x02#8, 0x80#8]⟩ := by decide +kernel

theorem test_V139_jsr_absolute :
    after (start false 0x00#8 0x00#8 0x00#8 0x00#8 0x8000#16 0x24#8
      [(0x8000#16, 0x20#8), (0x8001#16, 0x00#8), (0x8002#16, 0x90#8)]) [0x0100#16, 0x01FF#16] =
    some ⟨0x00#8, 0x00#8, 0x00#8, 0xFE#8, 0x9000#16, 0x24#8, 6, [0x80#8, 0x02#8]⟩ := by decide +kernel

theorem test_V140_rts_implied :
    after (start false 0x00#8 0x00#8 0x00#8 0xFB#8 0x8000#16 0x24#8
      [(0x01FC#16, 0x02#8), (0x01FD#16, 0x80#8), (0x8000#16, 0x60#8)]) [] =
    some ⟨0x00#8, 0x00#8, 0x00#8, 0xFD#8, 0x8003#16, 0x24#8, 6, []⟩ := by decide +kernel

theorem test_V141_rts_implied :
    after (start false 0x00#8 0x00#8 0x00#8 0xFB#8 0x8000#16 0x24#8
      [(0x01FC#16, 0xFF#8), (0x01FD#16, 0xFF#8), (0x8000#16, 0x60#8)]) [] =
    some ⟨0x00#8, 0x00#8, 0x00#8, 0xFD#8, 0x0000#16, 0x24#8, 6, []⟩ := by decide +kernel

theorem test_V142_rti_implied :
    after (start false 0x00#8 0x00#8 0x00#8 0xFA#8 0x8000#16 0x24#8
      [(0x01FB#16, 0x30#8), (0x01FC#16, 0x02#8), (0x01FD#16, 0x80#8), (0x8000#16, 0x40#8)]) [] =
    some ⟨0x00#8, 0x00#8, 0x00#8, 0xFD#8, 0x8002#16, 0x30#8, 6, []⟩ := by decide +kernel

theorem test_V143_rti_implied :
    after (start false 0x00#8 0x00#8 0x00#8 0xFA#8 0x8000#16 0x24#8
      [(0x01FB#16, 0xC3#8), (0x01FC#16, 0x34#8), (0x01FD#16, 0x12#8), (0x8000#16, 0x40#8)]) [] =
    some ⟨0x00#8, 0x00#8, 0x00#8, 0xFD#8, 0x1234#16, 0xE3#8, 6, []⟩ := by decide +kernel

theorem test_V144_brk_implied :
    after (start false 0x00#8 0x00#8 0x00#8 0xFD#8 0x8000#16 0x20#8
      [(0x8000#16, 0x00#8), (0xFFFE#16, 0x00#8), (0xFFFF#16, 0x90#8)]) [0x01FB#16, 0x01FC#16, 0x01FD#16] =
    some ⟨0x00#8, 0x00#8, 0x00#8, 0xFA#8, 0x9000#16, 0x34#8, 7, [0x30#8, 0x02#8, 0x80#8]⟩ := by decide +kernel

theorem test_V145_brk_implied :
    after (start false 0x00#8 0x00#8 0x00#8 0xFD#8 0x8000#16 0xA6#8
      [(0x8000#16, 0x00#8), (0xFFFE#16, 0x00#8), (0xFFFF#16, 0x90#8)]) [0x01FB#16, 0x01FC#16, 0x01FD#16] =
    some ⟨0x00#8, 0x00#8, 0x00#8, 0xFA#8, 0x9000#16, 0xB6#8, 7, [0xB6#8, 0x02#8, 0x80#8]⟩ := by decide +kernel

theorem test_V146_jmp_absolute :
    after (start false 0x00#8 0x00#8 0x00#8 0xFD#8 0x8000#16 0x24#8
      [(0x8000#16, 0x4C#8), (0x8001#16, 0x34#8), (0x8002#16, 0x12#8)]) [] =
    some ⟨0x00#8, 0x00#8, 0x00#8, 0xFD#8, 0x1234#16, 0x24#8, 3, []⟩ := by decide +kernel

theorem test_V148_jmp_indirect :
    after (start false 0x00#8 0x00#8 0x00#8 0xFD#8 0x8000#16 0x24#8
      [(0x1000#16, 0x56#8), (0x10FF#16, 0x34#8), (0x1100#16, 0x12#8), (0x8000#16, 0x6C#8), (0x8001#16, 0xFF#8), (0x8002#16, 0x10#8)]) [] =
    some ⟨0x00#8, 0x00#8, 0x00#8, 0xFD#8, 0x1234#16, 0x24#8, 5, []⟩ := by decide +kernel

theorem test_V149_jmp_indirect :
    after (start true 0x00#8 0x00#8 0x00#8 0xFD#8 0x8000#16 0x24#8
      [(0x1000#16, 0x56#8), (0x10FF#16, 0x34#8), (0x1100#16, 0x12#8), (0x8000#16, 0x6C#8), (0x8001#16, 0xFF#8), (0x8002#16, 0x10#8)]) [] =
    some ⟨0x00#8, 0x00#8, 0x00#8, 0xFD#8, 0x5634#16, 0x24#8, 5, []⟩ := by decide +kernel

theorem test_V151_sec_implied :
    after (start false 0x00#8 0x00#8 0x00#8 0xFD#8 0x8000#16 0x24#8
      [(0x8000#16, 0x38#8)]) [] =
    some ⟨0x00#8, 0x00#8, 0x00#8, 0xFD#8, 0x8001#16, 0x25#8, 2, []⟩ := by decide +kernel

theorem test_V152_clc_implied :
    after (start false 0x00#8 0x00#8 0x00#8 0xFD#8 0x8000#16 0x25#8
      [(0x8000#16, 0x18#8)]) [] =
    some ⟨0x00#8, 0x00#8, 0x00#8, 0xFD#8, 0x8001#16, 0x24#8, 2, []⟩ := by decide +kernel

theorem test_V153_sei_implied :
    after (start false 0x00#8 0x00#8 0x00#8 0xFD#8 0x8000#16 0x20#8
      [(0x8000#16, 0x78#8)]) [] =
    some ⟨0x00#8, 0x00#8, 0x00#8, 0xFD#8, 0x8001#16, 0x24#8, 2, []⟩ := by decide +kernel

theorem test_V154_cli_implied :
    after (start false 0x00#8 0x00#8 0x00#8 0xFD#8 0x8000#16 0x24#8
      [(0x8000#16, 0x58#8)]) [] =
    some ⟨0x00#8, 0x00#8, 0x00#8, 0xFD#8, 0x8001#16, 0x20#8, 2, []⟩ := by decide +kernel

theorem test_V155_sed_implied :
    after (start false 0x00#8 0x00#8 0x00#8 0xFD#8 0x8000#16 0x24#8
      [(0x8000#16, 0xF8#8)]) [] =
    some ⟨0x00#8, 0x00#8, 0x00#8, 0xFD#8, 0x8001#16, 0x2C#8, 2, []⟩ := by decide +kernel

theorem test_V156_cld_implied :
    after (start false 0x00#8 0x00#8 0x00#8 0xFD#8 0x8000#16 0x2C#8
      [(0x8000#16, 0xD8#8)]) [] =
    some ⟨0x00#8, 0x00#8, 0x00#8, 0xFD#8, 0x8001#16, 0x24#8, 2, []⟩ := by decide +kernel

theorem test_V157_clv_implied :
    after (start false 0x00#8 0x00#8 0x00#8 0xFD#8 0x8000#16 0x64#8
      [(0x8000#16, 0xB8#8)]) [] =
    some ⟨0x00#8, 0x00#8, 0x00#8, 0xFD#8, 0x8001#16, 0x24#8, 2, []⟩ := by decide +kernel

theorem test_V158_nop_implied :
    after (start false 0x00#8 0x00#8 0x00#8 0xFD#8 0x8000#16 0x24#8
      [(0x8000#16, 0xEA#8)]) [] =
    some ⟨0x00#8, 0x00#8, 0x00#8, 0xFD#8, 0x8001#16, 0x24#8, 2, []⟩ := by decide +kernel

/-! ### Halt and reset (V159, V166, V168) -/

/-- The state a step leaves. -/
def next (s : State) : State :=
  match step s with
  | .next t => t
  | .fault _ => s
  | .refused _ => s

theorem test_V159_invalid_02 :
    next (start false 0x00#8 0x00#8 0x00#8 0xFD#8 0x8000#16 0x24#8 [(0x8000#16, 0x02#8)]) =
      { start false 0x00#8 0x00#8 0x00#8 0xFD#8 0x8001#16 0x24#8 [(0x8000#16, 0x02#8)] with
        run := .halted, err := some (.invalidOpcode 0x02#8 0x8000#16) } := by decide +kernel

/-- V168: `A9 01 02`, reset vector 0x8000. -/
def vector168 : State := resetOp (start false 0x12#8 0x00#8 0x00#8 0x00#8 0x0000#16 0xFF#8
  [(0x8000#16, 0xA9#8), (0x8001#16, 0x01#8), (0x8002#16, 0x02#8), (0xFFFD#16, 0x80#8)])

theorem test_V168_reset : (vector168.pc, vector168.sp, vector168.flags.toByte) = (0x8000#16, 0xFD#8, 0x24#8) := by
  decide +kernel

theorem test_V168_halts : stepOutputs (next (next vector168)) = (2, true, some (.invalidOpcode 0x02#8 0x8002#16)) := by
  decide +kernel

theorem test_V168_stays_halted : next (next (next vector168)) = next (next vector168) := by decide +kernel

theorem test_V168_reset_leaves_halted : resetOp (next (next vector168)) = vector168 := by decide +kernel

/-! ### The host's two questions, on one word -/

theorem test_withFetchWord_runs_it : after (State.reset.withFetchWord 16 0x80A9) [] =
    some ⟨0x80#8, 0x00#8, 0x00#8, 0xFD#8, 0x0002#16, 0xA4#8, 2, []⟩ := by decide +kernel

/-! ### Witnesses: for every statement with hypotheses, a state and operands that meet all of them -/

theorem witness_DecodeEncodeRoundTrip : (Instr.beq (-128)).wellFormed = true := by decide

theorem witness_DecodedBytesAreTheEncoding :
    decode [0x20#8, 0x00#8, 0x90#8, 0xEA#8] = .ok (.jsr 0x9000#16, [0xEA#8]) := by decide +kernel

/-- Both clauses of the last conjunct of TableIsConsistent: a row that is found, and one of the table. -/
theorem witness_TableIsConsistent : ∃ r, lookup 0xFE#8 = some r ∧ r ∈ table :=
  ⟨⟨0xFE#8, .word .incAbsoluteX⟩, rfl, by simp [table, tableRowF]⟩

theorem witness_LengthIsAFunctionOfTheOpcode :
    decode [0xF0#8, 0x7F#8] = .ok (.beq 127, []) ∧ decode [0xF0#8, 0x80#8, 0x00#8] = .ok (.beq (-128), [0x00#8]) := by
  decide +kernel

/-- NOP stores nothing and is in no list of writers: it meets the hypotheses of every clause of the three frames. -/
theorem witness_frames :
    exec .nop State.reset = .next State.reset ∧ 0x01FD#16 ∉ Claims.storedAddrs .nop State.reset ∧
    Instr.nop.mnemonic ∉ Claims.writersOfNZ ∧ Instr.nop.mnemonic ∉ Claims.writersOfV ∧
    Instr.nop.mnemonic ∉ Claims.writersOfB ∧ Instr.nop.mnemonic ∉ Claims.writersOfD ∧
    Instr.nop.mnemonic ∉ Claims.writersOfI ∧ Instr.nop.mnemonic ∉ Claims.writersOfC ∧
    Instr.nop.mnemonic ∉ Claims.writersOfA ∧ Instr.nop.mode ≠ .accumulator ∧
    Instr.nop.mnemonic ∉ Claims.writersOfX ∧ Instr.nop.mnemonic ∉ Claims.writersOfY ∧
    Instr.nop.mnemonic ∉ Claims.writersOfSp ∧ Instr.nop.mnemonic ∉ Claims.controlTransfers :=
  ⟨rfl, by decide +kernel⟩

/-- A storing instruction and an address just beside the byte it stores to. -/
theorem witness_MemoryFrame :
    (∃ t, exec (.staAbsolute 0x0200#16) State.reset = .next t) ∧
    Claims.storedAddrs (.staAbsolute 0x0200#16) State.reset = [0x0200#16] ∧
    0x0201#16 ∉ Claims.storedAddrs (.staAbsolute 0x0200#16) State.reset := ⟨⟨_, rfl⟩, by decide +kernel⟩

/-- At the top of memory, so that the operand bytes are read at 0x0000 and 0x0001. -/
theorem witness_StepRunsTheDecodedInstruction :
    let s := start false 0x00#8 0x00#8 0x00#8 0xFD#8 0xFFFF#16 0x24#8
      [(0xFFFF#16, 0xAD#8), (0x0000#16, 0x34#8), (0x0001#16, 0x12#8)]
    s.run = .running ∧
    decode [s.read s.pc, s.read (BitVec.ofNat 16 (s.pc.toNat + 1)), s.read (BitVec.ofNat 16 (s.pc.toNat + 2))] =
      .ok (.ldaAbsolute 0x1234#16, []) := by decide +kernel

theorem witness_InvalidOpcodeHalts :
    let s := start false 0x00#8 0x00#8 0x00#8 0xFD#8 0xFFFF#16 0x24#8 [(0xFFFF#16, 0xFF#8)]
    s.run = .running ∧ s.read s.pc ∈ Claims.invalidBytes := by decide +kernel

theorem witness_ValidOpcodeCompletes :
    State.reset.run = .running ∧ State.reset.read State.reset.pc ∉ Claims.invalidBytes := by decide +kernel

theorem witness_HaltedEngineIsInert : (next (next vector168)).run = .halted := by decide +kernel

/-- Memory that is not empty, before and after the step. -/
theorem witness_StepKeepsTheInvariant :
    let s := start false 0x80#8 0x00#8 0x00#8 0xFD#8 0x8000#16 0x24#8 [(0x8000#16, 0x85#8), (0x8001#16, 0x10#8)]
    s.inv = true ∧ step s = .next (next s) := ⟨by decide +kernel, rfl⟩

theorem witness_OnlyJmpIndirectReadsTheParameter : State.reset.read State.reset.pc ≠ 0x6C#8 := by decide +kernel

/-- Both clauses of the penalty of an operand: LDA absolute_x across a page (base 0x12F0, X = 0x10: the least index that
crosses) and STA absolute_x, which pays nothing. -/
theorem witness_CyclePenalty :
    let s := State.reset.setX 0x10#8
    ((Instr.ldaAbsoluteX 0x12F0#16).mode ≠ .relative ∧ Claims.paysOnCross .lda .absoluteX ∧
      Claims.crosses s .absoluteX (.word 0x12F0#16)) ∧
    ((Instr.staAbsoluteX 0x12F0#16).mode ≠ .relative ∧ ¬Claims.paysOnCross .sta .absoluteX) ∧
    ¬Claims.crosses s .absoluteX (.word 0x12EF#16) := by
  simp [Claims.paysOnCross, Claims.crosses, Instr.mode, Instr.shape]

theorem witness_LoadMapsTheImage :
    (List.replicate 32768 0x00#8).length = 32768 ∧ (List.replicate 16384 0x00#8).length = 16384 ∧
    ([] : List Byte).length ≠ 32768 ∧ ([] : List Byte).length ≠ 16384 :=
  ⟨List.length_replicate, List.length_replicate, by decide, by decide⟩

theorem witness_ConstructionIsAReset :
    ((List.replicate 32768 0x00#8).length = 32768 ∧ 0x7FFC = 0x7FFC) ∧
    ((List.replicate 16384 0x00#8).length = 16384 ∧ 0x3FFC = 0x3FFC) :=
  ⟨⟨List.length_replicate, rfl⟩, List.length_replicate, rfl⟩

/-- IndirectModes and JmpResults at a page end, both values of the parameter (V148, V149 say where they read). -/
theorem witness_IndirectModes :
    let cells := [(0x10FF#16, 0x34#8), (0x1000#16, 0x56#8), (0x1100#16, 0x12#8)]
    (indirect 0x10FF#16 (start false 0x00#8 0x00#8 0x00#8 0xFD#8 0x8000#16 0x24#8 cells)).ea = 0x1234#16 ∧
    (indirect 0x10FF#16 (start true 0x00#8 0x00#8 0x00#8 0xFD#8 0x8000#16 0x24#8 cells)).ea = 0x5634#16 := by
  decide +kernel

end Sys2Proof.Tests
end

section
/-! PROOFS. The open parameter (family 00_scope.md): a decoded instruction has the opcode byte it was read
from, a step has three branches, and no instruction but JMP indirect depends on `cfg`. -/

namespace Sys2Proof

/-! ### The decoder: the instruction decoded has the opcode byte it was read from -/

/-- What `findRow` answers is a row of the list, under the byte looked for. -/
theorem mem_and_opcode_of_findRow {rows : List Row} {op : Byte} {r : Row} (h : findRow rows op = some r) :
    r ∈ rows ∧ r.opcode = op := by
  induction rows with
  | nil => cases h
  | cons r' rows ih =>
    simp only [findRow] at h
    split at h
    · next hop =>
      cases h
      exact ⟨List.mem_cons_self, hop⟩
    · obtain ⟨hmem, hop⟩ := ih h
      exact ⟨List.mem_cons_of_mem _ hmem, hop⟩

theorem tableRowOf_subset_table (nibble : Nat) : tableRowOf nibble ⊆ table := by
  intro r hr
  simp only [table, List.mem_append]
  unfold tableRowOf at hr
  split at hr <;> simp_all

/-- R112: what `lookup` answers is a row of the table, under the byte looked for. -/
theorem mem_and_opcode_of_lookup {op : Byte} {r : Row} (h : lookup op = some r) : r ∈ table ∧ r.opcode = op := by
  obtain ⟨hmem, hop⟩ := mem_and_opcode_of_findRow h
  exact ⟨tableRowOf_subset_table _ hmem, hop⟩

/-- Every instruction a template makes has the opcode byte `op`. -/
def Template.HasOpcode (op : Byte) : Template → Prop
  | .none i => opcodeOf i = op
  | .byte make => ∀ b, opcodeOf (make b) = op
  | .word make => ∀ w, opcodeOf (make w) = op
  | .rel make => ∀ d, opcodeOf (make d) = op

/-- R93: the decoder's table and the encoder's agree on every opcode byte. -/
theorem template_hasOpcode_of_mem_table : ∀ r ∈ table, r.template.HasOpcode r.opcode := by
  simp only [table, tableRow0, tableRow1, tableRow2, tableRow3, tableRow4, tableRow5, tableRow6, tableRow7, tableRow8,
    tableRow9, tableRowA, tableRowB, tableRowC, tableRowD, tableRowE, tableRowF, List.forall_mem_append, and_assoc,
    List.forall_mem_cons, List.not_mem_nil, false_implies, implies_true, and_true, Template.HasOpcode]
  and_intros <;> intros <;> rfl

theorem opcodeOf_of_fill {t : Template} {op : Byte} {bs rest : List Byte} {i : Instr} (ht : t.HasOpcode op)
    (h : fill t bs = some (i, rest)) : opcodeOf i = op := by
  unfold fill at h
  split at h <;> cases h
  · exact ht
  all_goals exact ht _

/-- R91, R93: what decodes from `op` and the bytes after it has the opcode byte `op`. -/
theorem opcodeOf_of_decode {op : Byte} {bs rest : List Byte} {i : Instr}
    (h : decode (op :: bs) = .ok (i, rest)) : opcodeOf i = op := by
  simp only [decode] at h
  split at h
  · cases h
  · next r hr =>
    obtain ⟨hmem, hop⟩ := mem_and_opcode_of_lookup hr
    split at h
    · cases h
    · next hfill =>
      cases h
      exact opcodeOf_of_fill (hop ▸ template_hasOpcode_of_mem_table r hmem) hfill

end Sys2Proof

namespace Sys2Proof.Machine

open Sys2Proof

/-! ### One equation per branch of a step -/

theorem halted_or_running (s : State) : s.run = .halted ∨ s.run = .running := by
  cases s.run <;> simp

/-- R235. -/
theorem step_of_halted {s : State} (hrun : s.run = .halted) : step s = .next s := by
  simp only [step, hrun]

/-- R231. -/
theorem step_of_decode_error {s : State} {e : DecodeError} (hrun : s.run = .running)
    (hdec : decode (fetchBytes s) = .error e) : step s = .next (haltInvalidOpcode s) := by
  simp only [step, hrun, hdec]

/-- R110: the step of a running engine over an instruction whose meaning answers `t`. -/
theorem step_of_exec {s t : State} {i : Instr} {rest : List Byte} (hrun : s.run = .running)
    (hdec : decode (fetchBytes s) = .ok (i, rest)) (hexec : exec i (fetched (instrLength i) s) = .next t) :
    step s = .next (t.addCycles (cost i (fetched (instrLength i) s))) := by
  simp only [step, hrun, hdec, hexec, charge_next]

/-! ### The open parameter -/

theorem fetched_with_cfg (n : Nat) (s : State) (c : Config) :
    fetched n { s with cfg := c } = { fetched n s with cfg := c } := rfl

theorem branch_cfg (taken : Bool) (d : Int) (s : State) : (branch taken d s).cfg = s.cfg := by
  rw [branch_eq]

theorem branch_with_cfg (taken : Bool) (d : Int) (s : State) (c : Config) :
    branch taken d { s with cfg := c } = { branch taken d s with cfg := c } := by
  rw [branch_eq, branch_eq]

theorem takeBreak_cfg (s : State) : (takeBreak s).cfg = s.cfg := by
  rw [takeBreak_eq]

theorem takeBreak_with_cfg (s : State) (c : Config) :
    takeBreak { s with cfg := c } = { takeBreak s with cfg := c } := by
  rw [takeBreak_eq, takeBreak_eq s]
  rfl

theorem returnFromBreak_cfg (s : State) : (returnFromBreak s).cfg = s.cfg := by
  rw [returnFromBreak_eq]

theorem returnFromBreak_with_cfg (s : State) (c : Config) :
    returnFromBreak { s with cfg := c } = { returnFromBreak s with cfg := c } := by
  rw [returnFromBreak_eq, returnFromBreak_eq]
  rfl

/-- R14: no instruction writes the open parameter. -/
theorem exec_keeps_cfg {i : Instr} {s t : State} (h : exec i s = .next t) : t.cfg = s.cfg := by
  cases i
  all_goals obtain rfl := Host.Outcome.next.inj h
  case bcc | bcs | beq | bne | bmi | bpl | bvc | bvs => exact branch_cfg _ _ _
  case brk => exact takeBreak_cfg s
  case rti => exact returnFromBreak_cfg s
  all_goals rfl

/-- R121: the meaning of every instruction but JMP indirect is the same under another open parameter. -/
theorem exec_with_cfg {i : Instr} {s t : State} (c : Config) (hi : ∀ w, i ≠ .jmpIndirect w)
    (h : exec i s = .next t) : exec i { s with cfg := c } = .next { t with cfg := c } := by
  cases i
  all_goals obtain rfl := Host.Outcome.next.inj h
  case jmpIndirect w => exact absurd rfl (hi w)
  case bcc | bcs | beq | bne | bmi | bpl | bvc | bvs => exact congrArg Host.Outcome.next (branch_with_cfg _ _ _ c)
  case brk => exact congrArg Host.Outcome.next (takeBreak_with_cfg s c)
  case rti => exact congrArg Host.Outcome.next (returnFromBreak_with_cfg s c)
  all_goals rfl

/-- R130, R131: the cost of an instruction is the same under another open parameter. -/
theorem cost_with_cfg (i : Instr) (s : State) (c : Config) : cost i { s with cfg := c } = cost i s := rfl

/-- A state that does not fetch the opcode byte 0x6C fetches no JMP indirect. -/
theorem ne_jmpIndirect_of_decode {s : State} {i : Instr} {rest : List Byte} (hop : s.read s.pc ≠ 0x6C#8)
    (hdec : decode (fetchBytes s) = .ok (i, rest)) (w : Word) : i ≠ .jmpIndirect w := by
  rintro rfl
  exact hop (opcodeOf_of_decode hdec).symm

/-- Settles O50, by the three branches of a step: a halted engine, an invalid opcode, and an instruction, which is no
JMP indirect. The other parameter changes neither what is fetched nor the cost. -/
theorem onlyJmpIndirectReadsTheParameter : Obligations.OnlyJmpIndirectReadsTheParameter := by
  unfold Obligations.OnlyJmpIndirectReadsTheParameter
  intro s c hop
  let s' : State := { s with cfg := c }
  rcases halted_or_running s with hrun | hrun
  · exact ⟨s, step_of_halted hrun, rfl, step_of_halted (s := s') hrun⟩
  · cases hdec : decode (fetchBytes s) with
    | error e =>
      exact ⟨haltInvalidOpcode s, step_of_decode_error hrun hdec, rfl, step_of_decode_error (s := s') hrun hdec⟩
    | ok out =>
      obtain ⟨i, rest⟩ := out
      obtain ⟨t, hexec⟩ := exec_answers_next i (fetched (instrLength i) s)
      have hi := ne_jmpIndirect_of_decode hop hdec
      have keeps : t.cfg = s.cfg := (exec_keeps_cfg hexec).trans (fetched_cfg s _)
      have other := step_of_exec (s := s') hrun hdec (exec_with_cfg c hi hexec)
      rw [fetched_with_cfg, cost_with_cfg] at other
      exact ⟨_, step_of_exec hrun hdec hexec, keeps, other⟩

end Sys2Proof.Machine
end

section
/-! PROOFS. The state (family 10_state.md): what an instruction's own effect can be, said once (`Effect`); from it
the frames of the flags, the registers and the engine, and the invariant of a step; and that the stored B is
unobservable. -/

namespace Sys2Proof.Machine

open Sys2Proof Sys2Proof.Claims

/-! ### What an instruction's own effect can be -/

/-- The effects an instruction of mnemonic `mn` and addressing mode `mode` can have on `s`: each constructor lists the
mnemonics it is the effect of. Which fields and flags an effect writes is exact; the value written is left open where no
frame turns on it. -/
inductive Effect (mn : Mnemonic) (mode : Mode) (s : State) : State → Prop
  /-- R140, R141. -/
  | add (m : Byte) (hmn : mn ∈ [.adc, .sbc]) : Effect mn mode s (adc m s)
  /-- R142 to R144, R180, R185, R186. -/
  | loadA (v : Byte) (hmn : mn ∈ [.and, .ora, .eor, .lda, .txa, .tya]) : Effect mn mode s (loadA v s)
  /-- R172, R174, R181, R183, R187. -/
  | loadX (v : Byte) (hmn : mn ∈ [.ldx, .tax, .tsx, .inx, .dex]) : Effect mn mode s (loadX v s)
  /-- R173, R175, R182, R184. -/
  | loadY (v : Byte) (hmn : mn ∈ [.ldy, .tay, .iny, .dey]) : Effect mn mode s (loadY v s)
  /-- R149 to R151. -/
  | compare (reg m : Byte) (hmn : mn ∈ [.cmp, .cpx, .cpy]) : Effect mn mode s (s.setFlags (s.flags.compare reg m))
  /-- R152. -/
  | bitTest (m : Byte) (hmn : mn ∈ [.bit]) : Effect mn mode s (bitTest m s)
  /-- R145 to R148, accumulator. -/
  | shiftA (r : Byte) (c : Bool) (hmn : mn ∈ [.asl, .lsr, .rol, .ror]) (hmode : mode = .accumulator) :
      Effect mn mode s ((s.setA r).setFlags { s.flags.setNZ r with c := c })
  /-- R145 to R148, memory. -/
  | shiftAt (ea : Word) (r : Byte) (c : Bool) (hmn : mn ∈ [.asl, .lsr, .rol, .ror]) :
      Effect mn mode s ((s.write ea r).setFlags { s.flags.setNZ r with c := c })
  /-- R170, R171. -/
  | countAt (ea : Word) (r : Byte) (hmn : mn ∈ [.inc, .dec]) : Effect mn mode s ((s.write ea r).setNZ r)
  /-- R189 to R191. -/
  | store (ea : Word) (v : Byte) (hmn : mn ∈ [.sta, .stx, .sty]) : Effect mn mode s (s.write ea v)
  /-- R188. -/
  | setSp (hmn : mn ∈ [.txs]) : Effect mn mode s (s.setSp s.x)
  /-- R160 to R168 (a branch not taken gives PC its own value), R208. -/
  | jump (w : Word) (hmn : mn ∈ [.bcc, .bcs, .beq, .bne, .bmi, .bpl, .bvc, .bvs, .jmp]) : Effect mn mode s (s.setPc w)
  /-- R200, R201. -/
  | push (v : Byte) (hmn : mn ∈ [.pha, .php]) : Effect mn mode s (s.push v)
  /-- R202. -/
  | pullA (hmn : mn ∈ [.pla]) : Effect mn mode s (Machine.loadA s.pulled s.unpush)
  /-- R203. -/
  | pullFlags (hmn : mn ∈ [.plp]) : Effect mn mode s (s.unpush.setFlags (Flags.ofByte s.pulled))
  /-- R204. -/
  | call (w ret : Word) (hmn : mn ∈ [.jsr]) : Effect mn mode s ((s.pushWord ret).setPc w)
  /-- R205. -/
  | ret (w : Word) (hmn : mn ∈ [.rts]) : Effect mn mode s (s.unpushWord.setPc w)
  /-- R206. -/
  | returnFromBreak (hmn : mn ∈ [.rti]) : Effect mn mode s (returnFromBreak s)
  /-- R207. -/
  | takeBreak (sp : Byte) (pc : Word) (mem : Memory) (hmn : mn ∈ [.brk]) :
      Effect mn mode s { s with sp := sp, flags := { s.flags with b := true, i := true }, pc := pc, mem := mem }
  /-- R220, R221. -/
  | setC (c : Bool) (hmn : mn ∈ [.sec, .clc]) : Effect mn mode s (s.setFlags { s.flags with c := c })
  /-- R222, R223. -/
  | setI (i : Bool) (hmn : mn ∈ [.sei, .cli]) : Effect mn mode s (s.setFlags { s.flags with i := i })
  /-- R224, R225. -/
  | setD (d : Bool) (hmn : mn ∈ [.sed, .cld]) : Effect mn mode s (s.setFlags { s.flags with d := d })
  /-- R226. -/
  | clearV (hmn : mn ∈ [.clv]) : Effect mn mode s (s.setFlags { s.flags with v := false })
  /-- R227. -/
  | nop (hmn : mn ∈ [.nop]) : Effect mn mode s s

/-- R129: every instruction has one of the effects, the one of its mnemonic. -/
theorem effect_of_exec {i : Instr} {s t : State} (h : exec i s = .next t) : Effect i.mnemonic i.mode s t := by
  cases i
  all_goals obtain rfl := Host.Outcome.next.inj h
  case adcImmediate | adcZeropage | adcZeropageX | adcAbsolute | adcAbsoluteX | adcAbsoluteY | adcXIndirect
      | adcIndirectY | sbcImmediate | sbcZeropage | sbcZeropageX | sbcAbsolute | sbcAbsoluteX | sbcAbsoluteY
      | sbcXIndirect | sbcIndirectY =>
    exact .add _ (of_decide_eq_true rfl)
  case andImmediate | andZeropage | andZeropageX | andAbsolute | andAbsoluteX | andAbsoluteY | andXIndirect
      | andIndirectY | oraImmediate | oraZeropage | oraZeropageX | oraAbsolute | oraAbsoluteX | oraAbsoluteY
      | oraXIndirect | oraIndirectY | eorImmediate | eorZeropage | eorZeropageX | eorAbsolute | eorAbsoluteX
      | eorAbsoluteY | eorXIndirect | eorIndirectY | ldaImmediate | ldaZeropage | ldaZeropageX | ldaAbsolute
      | ldaAbsoluteX | ldaAbsoluteY | ldaXIndirect | ldaIndirectY | txa | tya =>
    exact .loadA _ (of_decide_eq_true rfl)
  case ldxImmediate | ldxZeropage | ldxZeropageY | ldxAbsolute | ldxAbsoluteY | tax | tsx | inx | dex =>
    exact .loadX _ (of_decide_eq_true rfl)
  case ldyImmediate | ldyZeropage | ldyZeropageX | ldyAbsolute | ldyAbsoluteX | tay | iny | dey =>
    exact .loadY _ (of_decide_eq_true rfl)
  case cmpImmediate | cmpZeropage | cmpZeropageX | cmpAbsolute | cmpAbsoluteX | cmpAbsoluteY | cmpXIndirect
      | cmpIndirectY | cpxImmediate | cpxZeropage | cpxAbsolute | cpyImmediate | cpyZeropage | cpyAbsolute =>
    exact .compare _ _ (of_decide_eq_true rfl)
  case bitZeropage | bitAbsolute => exact .bitTest _ (of_decide_eq_true rfl)
  case aslAccumulator | lsrAccumulator | rolAccumulator | rorAccumulator =>
    exact .shiftA _ _ (of_decide_eq_true rfl) rfl
  case aslZeropage | aslZeropageX | aslAbsolute | aslAbsoluteX | lsrZeropage | lsrZeropageX | lsrAbsolute
      | lsrAbsoluteX | rolZeropage | rolZeropageX | rolAbsolute | rolAbsoluteX | rorZeropage | rorZeropageX
      | rorAbsolute | rorAbsoluteX =>
    exact .shiftAt _ _ _ (of_decide_eq_true rfl)
  case incZeropage | incZeropageX | incAbsolute | incAbsoluteX | decZeropage | decZeropageX | decAbsolute
      | decAbsoluteX =>
    exact .countAt _ _ (of_decide_eq_true rfl)
  case staZeropage | staZeropageX | staAbsolute | staAbsoluteX | staAbsoluteY | staXIndirect | staIndirectY
      | stxZeropage | stxZeropageY | stxAbsolute | styZeropage | styZeropageX | styAbsolute =>
    exact .store _ _ (of_decide_eq_true rfl)
  case bcc | bcs | beq | bne | bmi | bpl | bvc | bvs =>
    rw [branch_eq]
    exact .jump _ (of_decide_eq_true rfl)
  case pha | php => exact .push _ (of_decide_eq_true rfl)
  case jmpAbsolute | jmpIndirect => exact .jump _ (of_decide_eq_true rfl)
  case sec | clc => exact .setC _ (of_decide_eq_true rfl)
  case sei | cli => exact .setI _ (of_decide_eq_true rfl)
  case sed | cld => exact .setD _ (of_decide_eq_true rfl)
  case txs => exact .setSp (of_decide_eq_true rfl)
  case pla => exact .pullA (of_decide_eq_true rfl)
  case plp => exact .pullFlags (of_decide_eq_true rfl)
  case jsr => exact .call _ _ (of_decide_eq_true rfl)
  case rts => exact .ret _ (of_decide_eq_true rfl)
  case rti => exact .returnFromBreak (of_decide_eq_true rfl)
  case brk =>
    rw [takeBreak_eq]
    exact .takeBreak _ _ _ (of_decide_eq_true rfl)
  case clv => exact .clearV (of_decide_eq_true rfl)
  case nop => exact .nop (of_decide_eq_true rfl)

/-! ### The frames -/

section

variable {mn : Mnemonic} {mode : Mode} {s t : State}

/-- R41 to R43, R110: the engine's state and the open parameter are not written. -/
theorem Effect.keeps_engine (h : Effect mn mode s t) :
    t.run = s.run ∧ t.err = s.err ∧ t.cycles = s.cycles ∧ t.cfg = s.cfg := by
  cases h
  all_goals exact ⟨rfl, rfl, rfl, rfl⟩

/-- R32. -/
theorem Effect.keeps_a (h : Effect mn mode s t) (hw : mn ∉ writersOfA) (hm : mode ≠ .accumulator) : t.a = s.a := by
  cases h
  case add hmn | loadA hmn | pullA hmn => exact absurd ((by decide : _ ⊆ writersOfA) hmn) hw
  case shiftA hmode => exact absurd hmode hm
  all_goals rfl

/-- R33. -/
theorem Effect.keeps_x (h : Effect mn mode s t) (hw : mn ∉ writersOfX) : t.x = s.x := by
  cases h
  case loadX hmn => exact absurd ((by decide : _ ⊆ writersOfX) hmn) hw
  all_goals rfl

/-- R33. -/
theorem Effect.keeps_y (h : Effect mn mode s t) (hw : mn ∉ writersOfY) : t.y = s.y := by
  cases h
  case loadY hmn => exact absurd ((by decide : _ ⊆ writersOfY) hmn) hw
  all_goals rfl

/-- R34. -/
theorem Effect.keeps_sp (h : Effect mn mode s t) (hw : mn ∉ writersOfSp) : t.sp = s.sp := by
  cases h
  case setSp hmn | push hmn | pullA hmn | pullFlags hmn | call hmn | ret hmn | returnFromBreak hmn | takeBreak hmn =>
    exact absurd ((by decide : _ ⊆ writersOfSp) hmn) hw
  all_goals rfl

/-- R35. -/
theorem Effect.keeps_pc (h : Effect mn mode s t) (hw : mn ∉ controlTransfers) : t.pc = s.pc := by
  cases h
  case call hmn | ret hmn | returnFromBreak hmn | takeBreak hmn | jump hmn =>
    exact absurd ((by decide : _ ⊆ controlTransfers) hmn) hw
  all_goals rfl

/-- R38, N and Z. -/
theorem Effect.keeps_nz (h : Effect mn mode s t) (hw : mn ∉ writersOfNZ) :
    t.flags.n = s.flags.n ∧ t.flags.z = s.flags.z := by
  cases h
  case add hmn | loadA hmn | loadX hmn | loadY hmn | compare hmn | bitTest hmn | shiftAt hmn | countAt hmn | pullA hmn
      | pullFlags hmn | returnFromBreak hmn =>
    exact absurd ((by decide : _ ⊆ writersOfNZ) hmn) hw
  case shiftA hmn _ => exact absurd ((by decide : _ ⊆ writersOfNZ) hmn) hw
  all_goals exact ⟨rfl, rfl⟩

/-- R38, V. -/
theorem Effect.keeps_v (h : Effect mn mode s t) (hw : mn ∉ writersOfV) : t.flags.v = s.flags.v := by
  cases h
  case add hmn | bitTest hmn | pullFlags hmn | returnFromBreak hmn | clearV hmn =>
    exact absurd ((by decide : _ ⊆ writersOfV) hmn) hw
  all_goals rfl

/-- R38, B. -/
theorem Effect.keeps_b (h : Effect mn mode s t) (hw : mn ∉ writersOfB) : t.flags.b = s.flags.b := by
  cases h
  case pullFlags hmn | returnFromBreak hmn | takeBreak hmn => exact absurd ((by decide : _ ⊆ writersOfB) hmn) hw
  all_goals rfl

/-- R38, D. -/
theorem Effect.keeps_d (h : Effect mn mode s t) (hw : mn ∉ writersOfD) : t.flags.d = s.flags.d := by
  cases h
  case pullFlags hmn | returnFromBreak hmn | setD hmn => exact absurd ((by decide : _ ⊆ writersOfD) hmn) hw
  all_goals rfl

/-- R38, I. -/
theorem Effect.keeps_i (h : Effect mn mode s t) (hw : mn ∉ writersOfI) : t.flags.i = s.flags.i := by
  cases h
  case pullFlags hmn | returnFromBreak hmn | takeBreak hmn | setI hmn =>
    exact absurd ((by decide : _ ⊆ writersOfI) hmn) hw
  all_goals rfl

/-- R38, C. -/
theorem Effect.keeps_c (h : Effect mn mode s t) (hw : mn ∉ writersOfC) : t.flags.c = s.flags.c := by
  cases h
  case add hmn | compare hmn | shiftAt hmn | pullFlags hmn | returnFromBreak hmn | setC hmn =>
    exact absurd ((by decide : _ ⊆ writersOfC) hmn) hw
  case shiftA hmn _ => exact absurd ((by decide : _ ⊆ writersOfC) hmn) hw
  all_goals rfl

end

/-- Settles O40, by the effect of the instruction: an effect that writes a flag is that of a writer of R38. -/
theorem flagFrame : Obligations.FlagFrame := by
  unfold Obligations.FlagFrame
  intro i s t h
  have e := effect_of_exec h
  exact ⟨e.keeps_nz, e.keeps_v, e.keeps_b, e.keeps_d, e.keeps_i, e.keeps_c⟩

/-- Settles O41, by the effect of the instruction: an effect that writes a register is that of one of its writers, and
none writes the engine's state. -/
theorem registerFrame : Obligations.RegisterFrame := by
  unfold Obligations.RegisterFrame
  intro i s t h
  have e := effect_of_exec h
  exact ⟨e.keeps_a, e.keeps_x, e.keeps_y, e.keeps_sp, e.keeps_pc, e.keeps_engine⟩

/-! ### The invariant -/

/-- R42, and the canonical form of memory. -/
theorem State.inv_iff (s : State) : s.inv = true ↔ s.mem.wf = true ∧ (s.err = none ↔ s.run = .running) := by
  simp [State.inv, State.errMatchesRun]

/-- R231: the halt of an invalid opcode keeps the invariant. -/
theorem haltInvalidOpcode_keeps_inv {s : State} (h : s.inv = true) : (haltInvalidOpcode s).inv = true := by
  rw [State.inv_iff] at h ⊢
  obtain ⟨wf, -⟩ := h
  exact ⟨wf, by simp [haltInvalidOpcode]⟩

/-- R110: an instruction run after its fetch keeps the invariant. -/
theorem exec_fetched_keeps_inv {i : Instr} {n : Nat} {s t : State} (h : s.inv = true)
    (hexec : exec i (fetched n s) = .next t) : t.inv = true := by
  rw [State.inv_iff] at h ⊢
  obtain ⟨wf, agree⟩ := h
  obtain ⟨hrun, herr, -, -⟩ := (effect_of_exec hexec).keeps_engine
  refine ⟨exec_keeps_wf hexec wf, ?_⟩
  rw [hrun, herr]
  exact agree

/-- The cycle counter is no part of the invariant. -/
@[simp] theorem State.inv_addCycles (s : State) (n : Nat) : (s.addCycles n).inv = s.inv := rfl

/-- Settles O47, by the three branches of a step: a halted engine stays as it is, an invalid opcode leaves it Halted
with an error, and an instruction keeps memory canonical and does not touch `run` and `err`. -/
theorem stepKeepsTheInvariant : Obligations.StepKeepsTheInvariant := by
  unfold Obligations.StepKeepsTheInvariant
  intro s t inv h
  rcases halted_or_running s with hrun | hrun
  · rw [step_of_halted hrun] at h
    cases h
    exact inv
  · cases hdec : decode (fetchBytes s) with
    | error e =>
      rw [step_of_decode_error hrun hdec] at h
      cases h
      exact haltInvalidOpcode_keeps_inv inv
    | ok out =>
      obtain ⟨i, rest⟩ := out
      obtain ⟨u, hexec⟩ := exec_answers_next i (fetched (instrLength i) s)
      rw [step_of_exec hrun hdec hexec] at h
      cases h
      rw [State.inv_addCycles]
      exact exec_fetched_keeps_inv inv hexec

/-! ### The stored B -/

theorem branch_withB (taken : Bool) (d : Int) (s : State) (b : Bool) :
    branch taken d (withB s b) = withB (branch taken d s) b := by
  rw [branch_eq, branch_eq]
  rfl

/-- R201: PHP pushes the same byte whatever B holds. -/
theorem push_pushed_withB (s : State) (b : Bool) :
    (withB s b).push (withB s b).flags.pushed = withB (s.push s.flags.pushed) b := by
  rw [show (withB s b).flags.pushed = s.flags.pushed from s.flags.pushed_ignores_b b]
  rfl

/-- R207: BRK sets B before it pushes the status byte. -/
theorem takeBreak_withB (s : State) (b : Bool) : takeBreak (withB s b) = withB (takeBreak s) true := rfl

/-- R39: no instruction reads B: what it does to a state with another B differs at most in the B it leaves. -/
theorem exec_withB {i : Instr} {s t : State} (b : Bool) (h : exec i s = .next t) :
    ∃ b', exec i (withB s b) = .next (withB t b') := by
  cases i
  all_goals obtain rfl := Host.Outcome.next.inj h
  case bcc | bcs | beq | bne | bmi | bpl | bvc | bvs => exact ⟨b, congrArg Host.Outcome.next (branch_withB _ _ s b)⟩
  case php => exact ⟨b, congrArg Host.Outcome.next (push_pushed_withB s b)⟩
  case plp | rti => exact ⟨(Flags.ofByte s.pulled).b, rfl⟩
  case brk => exact ⟨true, congrArg Host.Outcome.next (takeBreak_withB s b)⟩
  all_goals exact ⟨b, rfl⟩

/-- R161 to R168: no branch is decided by B. -/
theorem branchTaken_with_b (mn : Mnemonic) (f : Flags) (b : Bool) :
    branchTaken mn { f with b := b } = branchTaken mn f := by
  cases mn <;> rfl

/-- R131: the cost of an instruction does not depend on B. -/
theorem cost_withB (i : Instr) (s : State) (b : Bool) : cost i (withB s b) = cost i s := by
  have taken : branchTaken i.mnemonic (withB s b).flags = branchTaken i.mnemonic s.flags := branchTaken_with_b _ _ _
  simp only [cost, penalty, taken]
  rfl

theorem fetched_withB (n : Nat) (s : State) (b : Bool) : fetched n (withB s b) = withB (fetched n s) b := rfl

/-- R39: one step from two states that differ in B alone leaves two states that differ at most in B. -/
theorem step_withB (s : State) (b : Bool) : ∃ t b', step s = .next t ∧ step (withB s b) = .next (withB t b') := by
  rcases halted_or_running s with hrun | hrun
  · exact ⟨s, b, step_of_halted hrun, step_of_halted (s := withB s b) hrun⟩
  · cases hdec : decode (fetchBytes s) with
    | error e =>
      exact ⟨haltInvalidOpcode s, b, step_of_decode_error hrun hdec,
        step_of_decode_error (s := withB s b) hrun hdec⟩
    | ok out =>
      obtain ⟨i, rest⟩ := out
      obtain ⟨t, hexec⟩ := exec_answers_next i (fetched (instrLength i) s)
      obtain ⟨b', hexecB⟩ := exec_withB b hexec
      have other := step_of_exec (s := withB s b) hrun hdec hexecB
      rw [fetched_withB, cost_withB] at other
      exact ⟨_, b', step_of_exec hrun hdec hexec, other⟩

/-- A run of one step more, after a step that answers a next state. -/
theorem run_succ_of_step {s t : State} (k : Nat) (h : step s = .next t) :
    Sys2Proof.core.run (k + 1) s = Sys2Proof.core.run k t := by
  have hcore : Sys2Proof.core.step s = .next t := h
  simp only [Host.Core.run, hcore]

/-- Settles O48, by induction on the number of steps, each of which keeps the relation "the same up to B". -/
theorem bFlagIsUnobservable : Obligations.BFlagIsUnobservable := by
  unfold Obligations.BFlagIsUnobservable
  intro k
  induction k with
  | zero => exact fun s b => ⟨s, b, rfl, rfl⟩
  | succ k ih =>
    intro s b
    obtain ⟨u, b', hstep, hstepB⟩ := step_withB s b
    rw [run_succ_of_step k hstep, run_succ_of_step k hstepB]
    exact ih u b'

/-! ### The status byte and the reset state -/

/-- R36: the serialised status byte, in numbers, for each of the 128 settings of the flags. -/
theorem Flags.toNat_toByte (f : Flags) :
    f.toByte.toNat =
      128 * f.n.toNat + 64 * f.v.toNat + 32 + 16 * f.b.toNat + 8 * f.d.toNat + 4 * f.i.toNat + 2 * f.z.toNat +
        f.c.toNat := by
  obtain ⟨n, v, b, d, i, z, c⟩ := f
  revert n v b d i z c
  decide

/-- R15: a bit of a byte, in numbers. -/
theorem getLsbD_eq_decide (v : Byte) (k : Nat) : v.getLsbD k = decide (v.toNat / 2 ^ k % 2 = 1) :=
  Nat.testBit_eq_decide_div_mod_eq

/-- R37. -/
theorem Flags.ofByte_eq_flagsIn (v : Byte) : Flags.ofByte v = flagsIn v := by
  simp only [Flags.ofByte, flagsIn, getLsbD_eq_decide, Nat.reducePow, Nat.div_one]

/-- Settles O9. -/
theorem statusByteFormat : Obligations.StatusByteFormat := by
  unfold Obligations.StatusByteFormat
  exact fun f v => ⟨f.toNat_toByte, Flags.ofByte_eq_flagsIn v⟩

/-- R42, R46: the invariant holds of the state after reset. -/
theorem State.inv_reset : State.reset.inv = true :=
  (State.inv_iff _).mpr ⟨reset_wf, Iff.intro (fun _ => rfl) (fun _ => rfl)⟩

/-- R46, R260: the state after reset is its own reset. -/
theorem resetOp_reset : resetOp State.reset = State.reset := rfl

/-- R40: with no image loaded every byte reads 0. -/
theorem State.read_reset (a : Word) : State.reset.read a = 0x00#8 := rfl

/-- Settles O56: the registers' values are those of the definition; the status byte 0x24 is I alone. -/
theorem resetStateValues : Obligations.ResetStateValues := by
  unfold Obligations.ResetStateValues
  exact ⟨State.inv_reset, rfl, resetOp_reset.symm, State.read_reset, rfl, rfl, rfl, rfl, rfl, rfl, rfl⟩

end Sys2Proof.Machine
end

section
/-! PROOFS. Memory (family 20_memory.md): the stack in page 0x01, the memory of a loaded image, what an instruction
writes to memory (one byte per address of `storedAddrs`), and what a step can do. -/

namespace Sys2Proof.Machine

open Sys2Proof Sys2Proof.Claims

/-! ### The stack -/

/-- R34: the stack byte an SP names, in numbers. -/
theorem eq_stackAddr_iff (sp : Byte) (b : Word) : b = stackAddr sp ↔ b.toNat = 256 + sp.toNat := by
  rw [← BitVec.toNat_inj, toNat_stackAddr]

theorem stackAddr_eq_ofNat (sp : Byte) : stackAddr sp = BitVec.ofNat 16 (256 + sp.toNat) := by
  rw [← toNat_stackAddr, BitVec.ofNat_toNat, BitVec.setWidth_eq]

/-- R65: the SP a push leaves, in numbers. -/
theorem State.toNat_push_sp (s : State) (v : Byte) : (s.push v).sp.toNat = (s.sp.toNat + 255) % 256 := by
  rw [State.push_sp, BitVec.toNat_sub, Nat.add_comm]
  rfl

/-- R65: the SP a pull leaves, in numbers. -/
theorem State.toNat_unpush_sp (s : State) : s.unpush.sp.toNat = (s.sp.toNat + 1) % 256 := by
  rw [State.unpush_sp, BitVec.toNat_add]
  rfl

theorem State.unpush_push_sp (s : State) (v : Byte) : (s.push v).unpush.sp = s.sp := by
  rw [State.unpush_sp, State.push_sp, BitVec.sub_add_cancel]

/-- Settles O27: `stackAddr` never leaves page 0x01, and SP is a byte, so that counting it wraps by itself. -/
theorem stackStaysInPageOne : Obligations.StackStaysInPageOne := by
  unfold Obligations.StackStaysInPageOne
  intro s v
  have pushed (b : Word) : (s.push v).read b = if b.toNat = 256 + s.sp.toNat then v else s.read b := by
    simp only [State.read_push, eq_stackAddr_iff]
  have pulled : s.pulled = s.read (BitVec.ofNat 16 (256 + (s.sp.toNat + 1) % 256)) := by
    rw [State.pulled_eq, ← State.unpush_sp, stackAddr_eq_ofNat, s.toNat_unpush_sp]
  exact ⟨toNat_stackAddr s.sp, pushed, s.toNat_push_sp v, s.toNat_unpush_sp, pulled, s.unpush_push_sp v,
    s.pulled_push v⟩

/-! ### The memory of a loaded image -/

/-- R40, R67: a run of bytes from address `k` up; every byte below and beyond it reads 0. -/
theorem Memory.read_cellsFrom (k : Nat) (bs : List Byte) (b : Word) :
    Memory.read (cellsFrom k bs) b = if b.toNat < k then 0x00#8 else bs.getD (b.toNat - k) 0x00#8 := by
  split
  · next below => exact find_cellsFrom_lt k bs b.toNat below
  · next above =>
    obtain ⟨i, hi⟩ := Nat.exists_eq_add_of_le (Nat.le_of_not_lt above)
    rw [Memory.read, hi, find_cellsFrom, Nat.add_sub_cancel_left]
    rfl

/-- R67: an image mirrored once reads modulo its size. -/
theorem getD_append_self {α : Type} (l : List α) (d : α) {n : Nat} (h : n < 2 * l.length) :
    (l ++ l).getD n d = l.getD (n % l.length) d := by
  rcases Nat.lt_or_ge n l.length with lower | upper
  · rw [List.getD_append _ _ _ _ lower, Nat.mod_eq_of_lt lower]
  · rw [List.getD_append_right _ _ _ _ upper, Nat.mod_eq_sub_mod upper, Nat.mod_eq_of_lt (by omega)]

theorem load_of_length_32768 {image : List Byte} (h : image.length = 32768) :
    load image = some (cellsFrom 0x8000 image) := by
  simp only [load, h, if_true]

theorem load_of_length_16384 {image : List Byte} (h : image.length = 16384) :
    load image = some (cellsFrom 0x8000 (image ++ image)) := by
  simp [load, h]

theorem load_of_length_ne {image : List Byte} (h32 : image.length ≠ 32768) (h16 : image.length ≠ 16384) :
    load image = none := by
  simp only [load, h32, h16, if_false]

/-- Settles O54, by the three sizes the loader tells apart; the 16384-byte image lies mirrored in the upper half of
memory, where an offset is below 32768. -/
theorem loadMapsTheImage : Obligations.LoadMapsTheImage := by
  unfold Obligations.LoadMapsTheImage
  intro image
  refine ⟨fun len => ?_, fun len => ?_, load_of_length_ne⟩
  · have loaded := load_of_length_32768 len
    exact ⟨_, loaded, load_wf loaded, Memory.read_cellsFrom 0x8000 image⟩
  · have loaded := load_of_length_16384 len
    refine ⟨_, loaded, load_wf loaded, fun b => ?_⟩
    have inImage : b.toNat - 0x8000 < 2 * image.length := by omega
    rw [Memory.read_cellsFrom, getD_append_self image _ inImage, len]

/-! ### What an instruction writes to memory -/

/-- The memory after writes of bytes at addresses, in the order of the list. -/
def Memory.writes (m : Memory) (cells : List (Word × Byte)) : Memory :=
  cells.foldl (fun m c => m.write c.1 c.2) m

/-- R70: writes leave every other byte as it was. -/
theorem Memory.read_writes_of_notMem (m : Memory) (cells : List (Word × Byte)) {b : Word}
    (h : b ∉ cells.map Prod.fst) : (m.writes cells).read b = m.read b := by
  induction cells generalizing m with
  | nil => rfl
  | cons c cells ih =>
    rw [List.map_cons, List.mem_cons, not_or] at h
    obtain ⟨hc, hcells⟩ := h
    calc ((m.write c.1 c.2).writes cells).read b
      _ = (m.write c.1 c.2).read b := ih _ hcells
      _ = m.read b := by rw [Memory.read_write, if_neg hc]

theorem below_zero (s : State) : below s 0 = stackAddr s.sp :=
  congrArg stackAddr (BitVec.sub_zero s.sp)

theorem below_one (s : State) : below s 1 = stackAddr (s.sp - 1#8) := rfl

theorem below_two (s : State) : below s 2 = stackAddr (s.sp - 1#8 - 1#8) :=
  congrArg stackAddr (by rw [BitVec.sub_sub]; rfl)

theorem State.push_mem_writes (s : State) (v : Byte) : (s.push v).mem = s.mem.writes [(below s 0, v)] := by
  rw [below_zero]
  rfl

/-- R204. -/
theorem State.pushWord_mem_writes (s : State) (w : Word) :
    (s.pushWord w).mem = s.mem.writes [(below s 0, highByte w), (below s 1, lowByte w)] := by
  rw [below_zero, below_one]
  rfl

/-- R207. -/
theorem takeBreak_mem_writes (s : State) :
    (takeBreak s).mem = s.mem.writes
      [(below s 0, highByte (s.pc + 1#16)), (below s 1, lowByte (s.pc + 1#16)),
        (below s 2, Flags.pushed { s.flags with b := true })] := by
  rw [below_zero, below_one, below_two]
  rfl

/-- R128: an instruction changes memory by one write at each address it stores to, in their order, and not at all where
it stores nothing. -/
theorem exec_mem_writes {i : Instr} {s t : State} (h : exec i s = .next t) :
    ∃ cells : List (Word × Byte), cells.map Prod.fst = storedAddrs i s ∧ t.mem = s.mem.writes cells := by
  cases i
  all_goals obtain rfl := Host.Outcome.next.inj h
  case staZeropage | staZeropageX | staAbsolute | staAbsoluteX | staAbsoluteY | staXIndirect | staIndirectY
      | stxZeropage | stxZeropageY | stxAbsolute | styZeropage | styZeropageX | styAbsolute | aslZeropage
      | aslZeropageX | aslAbsolute | aslAbsoluteX | lsrZeropage | lsrZeropageX | lsrAbsolute | lsrAbsoluteX
      | rolZeropage | rolZeropageX | rolAbsolute | rolAbsoluteX | rorZeropage | rorZeropageX | rorAbsolute
      | rorAbsoluteX | incZeropage | incZeropageX | incAbsolute | incAbsoluteX | decZeropage | decZeropageX
      | decAbsolute | decAbsoluteX =>
    exact ⟨[(_, _)], rfl, rfl⟩
  case pha | php => exact ⟨_, rfl, s.push_mem_writes _⟩
  case jsr => exact ⟨_, rfl, s.pushWord_mem_writes _⟩
  case brk => exact ⟨_, rfl, takeBreak_mem_writes s⟩
  case bcc | bcs | beq | bne | bmi | bpl | bvc | bvs =>
    rw [branch_eq]
    exact ⟨[], rfl, rfl⟩
  all_goals exact ⟨[], rfl, rfl⟩

/-- Settles O39: the instruction's writes are at the addresses it stores to, so they miss every other byte. -/
theorem memoryFrame : Obligations.MemoryFrame := by
  unfold Obligations.MemoryFrame
  intro i s t h b hb
  obtain ⟨cells, addrs, writes⟩ := exec_mem_writes h
  rw [State.read, writes]
  exact s.mem.read_writes_of_notMem cells (addrs ▸ hb)

/-! ### What a step can do -/

/-- R110, R231, R235: a step leaves a halted engine as it is, halts at an invalid opcode, or runs the instruction decoded
and charges its cost. -/
theorem step_cases (s : State) :
    (s.run = .halted ∧ step s = .next s) ∨
    (s.run = .running ∧ step s = .next (haltInvalidOpcode s)) ∨
    (s.run = .running ∧ ∃ i rest t, decode (fetchBytes s) = .ok (i, rest) ∧
      exec i (fetched (instrLength i) s) = .next t ∧
      step s = .next (t.addCycles (cost i (fetched (instrLength i) s)))) := by
  rcases halted_or_running s with hrun | hrun
  · exact .inl ⟨hrun, step_of_halted hrun⟩
  · cases hdec : decode (fetchBytes s) with
    | error e => exact .inr (.inl ⟨hrun, step_of_decode_error hrun hdec⟩)
    | ok out =>
      obtain ⟨i, rest⟩ := out
      obtain ⟨t, hexec⟩ := exec_answers_next i (fetched (instrLength i) s)
      exact .inr (.inr ⟨hrun, i, rest, t, rfl, hexec, step_of_exec hrun hdec hexec⟩)

/-- R42: no instruction's own effect writes the error record. -/
theorem exec_keeps_err {i : Instr} {s t : State} (h : exec i s = .next t) : t.err = s.err := by
  obtain ⟨-, herr, -, -⟩ := (effect_of_exec h).keeps_engine
  exact herr

/-- Settles O46, by the three branches of a step: the one that writes the error record writes InvalidOpcode. -/
theorem everyStepAnswersANextState : Obligations.EveryStepAnswersANextState := by
  unfold Obligations.EveryStepAnswersANextState
  intro s
  rcases step_cases s with ⟨-, hstep⟩ | ⟨-, hstep⟩ | ⟨-, i, rest, t, -, hexec, hstep⟩
  · exact ⟨s, hstep, fun _ h => h⟩
  · refine ⟨haltInvalidOpcode s, hstep, fun addr h => ?_⟩
    have recorded : (haltInvalidOpcode s).err = some (.invalidOpcode (s.read s.pc) s.pc) := rfl
    rw [recorded] at h
    cases h
  · refine ⟨_, hstep, fun addr h => ?_⟩
    have kept : t.err = s.err := (exec_keeps_err hexec).trans (fetched_err s _)
    rwa [State.addCycles_err, kept] at h

end Sys2Proof.Machine
end

section
/-! PROOFS. The encoding (family 30_encoding.md): each instruction has its row in the table, a row makes instructions of
one shape, and the operand bytes of a template are those of the operand it takes. From these the two round trips, the
table's consistency and the length of an instruction. -/

namespace Sys2Proof

open Machine Claims

/-! ### The displacement byte -/

@[simp] theorem displacementByte_displacementOf (b : Byte) : displacementByte (displacementOf b) = b := by
  rw [displacementOf_eq_toInt, displacementByte, BitVec.ofInt_toInt]

theorem displacementOf_displacementByte {d : Int} (hlo : -128 ≤ d) (hhi : d ≤ 127) :
    displacementOf (displacementByte d) = d := by
  rw [displacementOf_eq_toInt, displacementByte]
  exact BitVec.toInt_ofInt_eq_self (by decide) hlo (Int.lt_add_one_of_le hhi)

/-- R92, R113: what a displacement byte stands for is in -128..+127. -/
theorem wellFormed_rel_displacementOf (b : Byte) : (Arg.rel (displacementOf b)).wellFormed = true := by
  have hlo := b.le_toInt
  have hhi := b.toInt_lt
  simp only [Arg.wellFormed, displacementOf_eq_toInt, Bool.and_eq_true, decide_eq_true_eq]
  omega

/-! ### Templates and operands -/

/-- The instruction a template makes of an operand of its kind; none of an operand of another kind. -/
def Template.ofArg : Template → Arg → Option Instr
  | .none i, .none => some i
  | .byte make, .byte b => some (make b)
  | .word make, .word w => some (make w)
  | .rel make, .rel d => some (make d)
  | _, _ => Option.none

/-- `fill` reads a well-formed operand back from the bytes it is encoded in. -/
theorem fill_argBytes {t : Template} {a : Arg} {i : Instr} (ht : t.ofArg a = some i) (ha : a.wellFormed = true)
    (rest : List Byte) : fill t (argBytes a ++ rest) = some (i, rest) := by
  unfold Template.ofArg at ht
  split at ht <;> cases ht
  case h_1 => rfl
  case h_2 => rfl
  case h_3 => simp [argBytes, fill]
  case h_4 d =>
    obtain ⟨hlo, hhi⟩ : -128 ≤ d ∧ d ≤ 127 := by simpa [Arg.wellFormed] using ha
    simp [argBytes, fill, displacementOf_displacementByte hlo hhi]

/-- What `fill` answers is made of a well-formed operand, and the bytes it took are that operand's encoding. -/
theorem ofArg_of_fill {t : Template} {bs rest : List Byte} {i : Instr} (h : fill t bs = some (i, rest)) :
    ∃ a, t.ofArg a = some i ∧ a.wellFormed = true ∧ bs = argBytes a ++ rest := by
  unfold fill at h
  split at h <;> cases h
  case h_1 => exact ⟨.none, rfl, rfl, rfl⟩
  case h_2 b => exact ⟨.byte b, rfl, rfl, rfl⟩
  case h_3 lo hi => exact ⟨.word (wordOf lo hi), rfl, rfl, by simp [argBytes]⟩
  case h_4 b => exact ⟨.rel (displacementOf b), rfl, wellFormed_rel_displacementOf b, by simp [argBytes]⟩

/-- Every instruction a template makes has this mnemonic, this mode and the operand it was made of. -/
def Template.HasShape (m : Mnemonic) (mode : Mode) : Template → Prop
  | .none i => i.shape = (m, mode, .none)
  | .byte make => ∀ b, (make b).shape = (m, mode, .byte b)
  | .word make => ∀ w, (make w).shape = (m, mode, .word w)
  | .rel make => ∀ d, (make d).shape = (m, mode, .rel d)

theorem shape_of_ofArg {t : Template} {m : Mnemonic} {mode : Mode} {a : Arg} {i : Instr} (ht : t.HasShape m mode)
    (h : t.ofArg a = some i) : i.shape = (m, mode, a) := by
  unfold Template.ofArg at h
  split at h <;> cases h
  case h_1 => exact ht
  all_goals exact ht _

/-! ### The row of an instruction -/

/-- R93: the encoder's opcode byte of an instruction has a row in the decoder's table, which makes the instruction of
its operand. -/
theorem lookup_opcodeOf (i : Instr) : ∃ r, lookup (opcodeOf i) = some r ∧ r.template.ofArg i.arg = some i := by
  cases i
  -- `lookup` computes on a literal byte.
  all_goals
    dsimp only [opcodeOf]
    exact ⟨_, rfl, rfl⟩

/-- R91: the row of an instruction makes instructions of its mnemonic and its mode only. -/
theorem hasShape_of_lookup {i : Instr} {r : Row} (h : lookup (opcodeOf i) = some r) :
    r.template.HasShape i.mnemonic i.mode := by
  cases i
  all_goals
    dsimp only [opcodeOf] at h
    obtain rfl := Option.some.inj h
    simp only [Template.HasShape]
    intros
    rfl

/-! ### Inversion of the decoder -/

theorem decode_cons_eq_ok_iff {op : Byte} {bs : List Byte} {out : Instr × List Byte} :
    decode (op :: bs) = .ok out ↔ ∃ r, lookup op = some r ∧ fill r.template bs = some out := by
  cases hr : lookup op with
  | none => simp [decode, hr]
  | some r => cases hf : fill r.template bs <;> simp [decode, hr, hf]

theorem decode_cons_eq_invalidOpcode_iff {op : Byte} {bs : List Byte} :
    decode (op :: bs) = .error (.invalidOpcode op) ↔ lookup op = none := by
  cases hr : lookup op with
  | none => simp [decode, hr]
  | some r => cases hf : fill r.template bs <;> simp [decode, hr, hf]

/-- Settles O2: the row of the instruction reads its operand back from the operand's bytes. -/
theorem decodeEncodeRoundTrip : Obligations.DecodeEncodeRoundTrip := by
  unfold Obligations.DecodeEncodeRoundTrip
  intro i rest hwf
  obtain ⟨r, hr, hmake⟩ := lookup_opcodeOf i
  exact decode_cons_eq_ok_iff.mpr ⟨r, hr, fill_argBytes hmake hwf rest⟩

/-- R91: instructions decoded from one opcode byte have one row, so one mnemonic and one mode; the operand is the one
whose bytes were read. -/
theorem shape_of_decode {op : Byte} {bs rest : List Byte} {i j : Instr} (h : decode (op :: bs) = .ok (i, rest))
    (hj : opcodeOf j = op) :
    ∃ a, i.shape = (j.mnemonic, j.mode, a) ∧ a.wellFormed = true ∧ bs = argBytes a ++ rest := by
  obtain ⟨r, hr, hfill⟩ := decode_cons_eq_ok_iff.mp h
  obtain ⟨a, hmake, hwf, hbs⟩ := ofArg_of_fill hfill
  exact ⟨a, shape_of_ofArg (hasShape_of_lookup (hj ▸ hr)) hmake, hwf, hbs⟩

/-- Settles O3: the operand that `fill` read is the operand of the instruction, and its opcode byte the byte read. -/
theorem decodedBytesAreTheEncoding : Obligations.DecodedBytesAreTheEncoding := by
  unfold Obligations.DecodedBytesAreTheEncoding
  intro bs rest i h
  cases bs with
  | nil => cases h
  | cons op bs =>
    have hop := opcodeOf_of_decode h
    obtain ⟨a, hshape, hwf, rfl⟩ := shape_of_decode h hop
    obtain rfl : i.arg = a := congrArg (·.2.2) hshape
    exact ⟨hwf, by rw [encode, hop, List.cons_append]⟩

/-! ### The table -/

/-- R93: the rows stand in the order of their opcode bytes. -/
theorem table_opcodes_increasing : (table.map fun r => r.opcode.toNat).Pairwise (· < ·) :=
  List.isChain_iff_pairwise.mp (by decide +kernel)

/-- R97: no opcode byte has two rows. -/
theorem table_opcodes_nodup : (table.map Row.opcode).Nodup := by
  refine List.Nodup.of_map BitVec.toNat ?_
  rw [List.map_map]
  exact table_opcodes_increasing.imp Nat.ne_of_lt

/-- Two operand bytes are enough for every template. -/
theorem Template.exists_fill (t : Template) (b₁ b₂ : Byte) (bs : List Byte) :
    ∃ i rest, fill t (b₁ :: b₂ :: bs) = some (i, rest) := by
  cases t
  all_goals exact ⟨_, _, rfl⟩

/-- R112: a row of the table is found under its own byte: an instruction it makes has a row under that byte, and no byte
has two. -/
theorem lookup_of_mem_table {r : Row} (h : r ∈ table) : lookup r.opcode = some r := by
  obtain ⟨i, rest, hfill⟩ := r.template.exists_fill 0 0 []
  have hop : opcodeOf i = r.opcode := opcodeOf_of_fill (template_hasOpcode_of_mem_table r h) hfill
  obtain ⟨r', hr', -⟩ := lookup_opcodeOf i
  rw [hop] at hr'
  obtain ⟨hmem, hop'⟩ := mem_and_opcode_of_lookup hr'
  rw [hr', List.inj_on_of_nodup_map table_opcodes_nodup hmem h hop']

/-- R95: the listed bytes are those of 0x00 to 0xFF that have no row, in order. -/
theorem invalidBytes_eq_filter :
    invalidBytes = ((List.range 256).map (BitVec.ofNat 8)).filter fun op => (lookup op).isNone := by
  decide +kernel

theorem mem_allBytes (op : Byte) : op ∈ (List.range 256).map (BitVec.ofNat 8) :=
  List.mem_map.mpr ⟨op.toNat, List.mem_range.mpr op.isLt, by simp⟩

theorem lookup_eq_none_iff (op : Byte) : lookup op = none ↔ op ∈ invalidBytes := by
  simp only [invalidBytes_eq_filter, List.mem_filter, mem_allBytes, true_and, Option.isNone_iff_eq_none]

/-- Settles O4: the rows stand in the order of their bytes, so none has two; the absent bytes are listed one by one. -/
theorem tableIsConsistent : Obligations.TableIsConsistent := by
  unfold Obligations.TableIsConsistent
  refine ⟨rfl, table_opcodes_nodup, fun r => lookup_of_mem_table,
    fun op r h => (mem_and_opcode_of_lookup h).symm, fun op rest => ?_⟩
  rw [decode_cons_eq_invalidOpcode_iff, lookup_eq_none_iff]

/-! ### Length -/

/-- R90: the encoding of an instruction has the length its mode gives it. -/
theorem length_encode (i : Instr) : (encode i).length = modeLength i.mode := by
  cases i
  all_goals rfl

/-- R90: the lengths of the three formats. -/
theorem modeLength_eq (mode : Mode) : modeLength mode =
    if mode ∈ [.implied, .accumulator] then 1
    else if mode ∈ [.absolute, .absoluteX, .absoluteY, .indirect] then 3 else 2 := by
  cases mode
  all_goals rfl

/-- Settles O5: instructions of one opcode byte have one row, and the length is a function of the mode. -/
theorem lengthIsAFunctionOfTheOpcode : Obligations.LengthIsAFunctionOfTheOpcode := by
  unfold Obligations.LengthIsAFunctionOfTheOpcode
  intro op bs bs' rest rest' i j hi hj
  obtain ⟨a, hshape, -, -⟩ := shape_of_decode hi (opcodeOf_of_decode hj)
  have hmnemonic : i.mnemonic = j.mnemonic := congrArg (·.1) hshape
  have hmode : i.mode = j.mode := congrArg (·.2.1) hshape
  refine ⟨hmnemonic, hmode, ?_, ?_⟩
  · rw [length_encode, length_encode, hmode]
  · rw [length_encode, modeLength_eq]

/-- Settles O1, by running the decoder on each word. -/
theorem sampleWordsDecode : Obligations.SampleWordsDecode := by
  unfold Obligations.SampleWordsDecode
  and_intros
  all_goals rfl

end Sys2Proof
end

section
/-! PROOFS. The engine (family 40_engine.md): the addressing modes in numbers, the cycle cost and its penalty, and the
step of a running engine. -/

namespace Sys2Proof.Machine

open Sys2Proof Sys2Proof.Claims

/-! ### Addresses in numbers -/

/-- R15: an address some places on, modulo 0x10000. -/
theorem add_ofNat_eq_ofNat (w : Word) (n : Nat) : w + BitVec.ofNat 16 n = BitVec.ofNat 16 (w.toNat + n) := by
  rw [BitVec.ofNat_add, BitVec.ofNat_toNat, BitVec.setWidth_eq]

/-- R125: two addresses have the same high byte exactly when they are in the same page. -/
theorem page_eq_iff (v w : Word) : v &&& 0xFF00#16 = w &&& 0xFF00#16 ↔ v.toNat / 256 = w.toNat / 256 := by
  rw [← BitVec.toNat_inj, toNat_page, toNat_page]
  omega

/-- R121: the address after `w` inside the page of `w`. -/
theorem nextInPage_eq_ofNat (w : Word) :
    (w &&& 0xFF00#16) ||| ((w + 1#16) &&& 0x00FF#16) =
      BitVec.ofNat 16 (w.toNat / 256 * 256 + (w.toNat + 1) % 256) := by
  have low : ((w + 1#16) &&& 0x00FF#16).toNat = (w.toNat + 1) % 256 := by
    have mask : ((w + 1#16) &&& 0x00FF#16).toNat = (w + 1#16).toNat % 256 := Nat.and_two_pow_sub_one_eq_mod _ 8
    rw [mask, BitVec.toNat_add]
    exact Nat.mod_mod_of_dvd _ (by decide)
  have join := Nat.two_pow_add_eq_or_of_lt (i := 8) (Nat.mod_lt (w.toNat + 1) (by decide)) (w.toNat / 256)
  apply BitVec.eq_of_toNat_eq
  have hw := w.isLt
  rw [BitVec.toNat_or, toNat_page, low, BitVec.toNat_ofNat, Nat.mul_comm, ← join]
  omega

/-! ### The addressing modes -/

/-- R125: an index crosses a page exactly when it carries out of the low byte of the base. -/
theorem indexed_crossed (base : Word) (index : Byte) :
    (indexed base index).crossed = decide (256 ≤ base.toNat % 256 + index.toNat) := by
  have pages : base &&& 0xFF00#16 ≠ (indexed base index).ea &&& 0xFF00#16 ↔
      256 ≤ base.toNat % 256 + index.toNat := by
    rw [Ne, page_eq_iff, toNat_indexed]
    have hbase := base.isLt
    have hindex := index.isLt
    omega
  exact decide_eq_decide.mpr pages

/-- R61, R64: the word at a zero-page pointer, in numbers. -/
theorem State.toNat_zpRead16 (s : State) (z : Byte) : (s.zpRead16 z).toNat = pointer s z := by
  have second : (z + 1#8).toNat = (z.toNat + 1) % 256 := BitVec.toNat_add z 1#8
  rw [State.zpRead16_eq, toNat_wordOf, ← BitVec.ofNat_toNat, ← BitVec.ofNat_toNat, second]
  rfl

/-- R121: the target of an indirect JMP is the word at the pointer; the open parameter says where its second byte is. -/
theorem indirect_ea (w : Word) (s : State) :
    (indirect w s).ea = wordOf (s.read w) (s.read (BitVec.ofNat 16
      (if s.cfg.jmpIndPageWrap = true then w.toNat / 256 * 256 + (w.toNat + 1) % 256 else w.toNat + 1))) := by
  unfold indirect
  split
  · rw [nextInPage_eq_ofNat]
  · rw [State.read16_eq, add_ofNat_eq_ofNat]

theorem indirect_crossed (w : Word) (s : State) : (indirect w s).crossed = false := by
  unfold indirect
  split
  all_goals rfl

/-- Settles O7: both indexed modes add a byte to the 16-bit base. -/
theorem indexedModes : Obligations.IndexedModes := by
  unfold Obligations.IndexedModes
  exact fun w s => ⟨⟨rfl, rfl⟩, ⟨toNat_indexed w s.x, indexed_crossed w s.x⟩,
    toNat_indexed w s.y, indexed_crossed w s.y⟩

/-- Settles O8, by the second byte of each pointer: after it in its page or in memory (indirect), after it in page 0
(x_indirect, whose pointer is the operand plus X, and indirect_y). -/
theorem indirectModes : Obligations.IndirectModes := by
  unfold Obligations.IndirectModes
  intro s w z
  refine ⟨⟨?_, indirect_crossed w s⟩, ⟨?_, rfl⟩, ?_, ?_⟩
  · rw [indirect_ea, toNat_wordOf]
    rfl
  · have first : (z + s.x).toNat = (z.toNat + s.x.toNat) % 256 := BitVec.toNat_add z s.x
    have ea : (xIndirect z s).ea.toNat = pointer s (z + s.x) := s.toNat_zpRead16 (z + s.x)
    rw [ea, pointer, first, Nat.mod_add_mod]
  · rw [indirectY, toNat_indexed, State.toNat_zpRead16]
  · rw [indirectY, indexed_crossed, State.toNat_zpRead16]

/-- Settles O6: a sum of bytes is modulo 256. -/
theorem zeropageModes : Obligations.ZeropageModes := by
  unfold Obligations.ZeropageModes
  intro z s
  have wraps (index : Byte) : (zeropage (z + index)).ea.toNat = (z.toNat + index.toNat) % 256 := by
    rw [toNat_zeropage, BitVec.toNat_add]
  exact ⟨⟨toNat_zeropage z, rfl⟩, ⟨wraps s.x, rfl⟩, wraps s.y, rfl⟩

/-! ### The penalty -/

/-- R124: only relative mode has a displacement. -/
theorem mode_of_arg_rel {i : Instr} {d : Int} (h : i.arg = .rel d) : i.mode = .relative := by
  cases i
  case bcc | bcs | beq | bne | bmi | bpl | bvc | bvs => rfl
  all_goals cases h

/-- R131: the penalty of an instruction that is no branch. -/
theorem penalty_of_mode_ne_relative {i : Instr} (s : State) (hmode : i.mode ≠ .relative) :
    penalty i s = if paysPageCross i && pageCrossed i s then 1 else 0 := by
  unfold penalty
  split
  · next harg => exact absurd (mode_of_arg_rel harg) hmode
  · rfl

theorem paysPageCross_iff (i : Instr) : paysPageCross i = true ↔ paysOnCross i.mnemonic i.mode := by
  simp only [paysPageCross, paysOnCross, Bool.or_eq_true, Bool.and_eq_true, decide_eq_true_eq, or_assoc]

/-- R123, R125: in the three modes that index a 16-bit base the index carries out of the base's low byte; the low
byte of indirect_y's base is the pointer's first byte. -/
theorem pageCrossed_iff (i : Instr) (s : State) : pageCrossed i s = true ↔ crosses s i.mode i.arg := by
  unfold pageCrossed
  split
  case h_1 hmode harg | h_2 hmode harg =>
    rw [hmode, harg]
    simp only [absoluteX, absoluteY, indexed_crossed, decide_eq_true_eq, crosses]
  case h_3 z hmode harg =>
    have low : (s.zpRead16 z).toNat % 256 = (s.read (z.setWidth 16)).toNat := by
      rw [State.zpRead16_eq, ← toNat_lowByte, lowByte_wordOf]
    rw [hmode, harg, indirectY, indexed_crossed, low, decide_eq_true_eq, crosses]
  case h_4 notX notY notIndirectY =>
    unfold crosses
    split
    · next hmode harg => exact absurd harg (notX _ hmode)
    · next hmode harg => exact absurd harg (notY _ hmode)
    · next hmode harg => exact absurd harg (notIndirectY _ hmode)
    · simp

/-- R160: the target of a branch, in numbers. -/
theorem toNat_branchTarget (pc : Word) (d : Int) : ((branchTarget pc d).toNat : Int) = (pc.toNat + d) % 65536 := by
  rw [branchTarget, BitVec.toNat_ofInt, Int.toNat_of_nonneg (Int.emod_nonneg _ (by decide))]
  rfl

/-- R131, R160: the penalty of a branch, in numbers. -/
theorem branchPenalty_eq_branchCycles {taken : Bool} {p : Prop} [Decidable p] (h : taken = true ↔ p) (d : Int)
    (s : State) : branchPenalty taken d s = branchCycles p s d := by
  have samePage : s.pc &&& 0xFF00#16 = branchTarget s.pc d &&& 0xFF00#16 ↔
      (s.pc.toNat : Int) / 256 = ((s.pc.toNat : Int) + d) % 65536 / 256 := by
    rw [page_eq_iff, ← toNat_branchTarget]
    omega
  simp only [branchPenalty, branchCycles, h, samePage]

/-- Settles O52: the instructions that pay and the crossings agree; each branch has its own condition. -/
theorem cyclePenalty : Obligations.CyclePenalty := by
  unfold Obligations.CyclePenalty
  refine ⟨fun i s hmode => ?_, fun s d => ?_⟩
  · rw [penalty_of_mode_ne_relative s hmode, ← paysPageCross_iff, ← pageCrossed_iff, ← Bool.and_eq_true]
    exact ⟨fun pays => if_pos pays, fun free => if_neg free⟩
  · have isClear (f : Bool) : (!f) = true ↔ f = false := iff_of_eq (Bool.not_eq_true' f)
    exact
      ⟨branchPenalty_eq_branchCycles (isClear _) d s, branchPenalty_eq_branchCycles Iff.rfl d s,
        branchPenalty_eq_branchCycles Iff.rfl d s, branchPenalty_eq_branchCycles (isClear _) d s,
        branchPenalty_eq_branchCycles Iff.rfl d s, branchPenalty_eq_branchCycles (isClear _) d s,
        branchPenalty_eq_branchCycles (isClear _) d s, branchPenalty_eq_branchCycles Iff.rfl d s⟩

/-! ### The cost of an instruction -/

/-- R275. -/
theorem baseCycles_bounds (i : Instr) : 2 ≤ baseCycles i ∧ baseCycles i ≤ 7 := by
  cases i
  all_goals exact of_decide_eq_true rfl

/-- R275: every branch has two base cycles. -/
theorem baseCycles_of_mode_relative {i : Instr} (h : i.mode = .relative) : baseCycles i = 2 := by
  cases i
  case bcc | bcs | beq | bne | bmi | bpl | bvc | bvs => rfl
  all_goals cases h

/-- R131, R275: no instruction that pays for a crossing has more than five base cycles. -/
theorem baseCycles_of_paysPageCross {i : Instr} : paysPageCross i = true → baseCycles i ≤ 5 := by
  cases i
  all_goals exact of_decide_eq_true rfl

theorem branchPenalty_le_two (taken : Bool) (d : Int) (s : State) : branchPenalty taken d s ≤ 2 := by
  unfold branchPenalty
  split_ifs
  all_goals decide

/-- R130, R131, R275: an instruction costs between 2 and 7 cycles: those with a penalty have fewer base cycles. -/
theorem cost_bounds (i : Instr) (s : State) : 2 ≤ cost i s ∧ cost i s ≤ 7 := by
  obtain ⟨atLeast, atMost⟩ := baseCycles_bounds i
  refine ⟨Nat.le_add_right_of_le atLeast, ?_⟩
  unfold cost penalty
  split
  · next d harg =>
    rw [baseCycles_of_mode_relative (mode_of_arg_rel harg)]
    have := branchPenalty_le_two (branchTaken i.mnemonic s.flags) d s
    omega
  · split
    · next hpays =>
      obtain ⟨pays, -⟩ := Bool.and_eq_true_iff.mp hpays
      have := baseCycles_of_paysPageCross pays
      omega
    · exact atMost

/-! ### The step -/

/-- R113: the bytes a step fetches, by their addresses in numbers. -/
theorem fetchBytes_eq (s : State) : fetchBytes s =
    [s.read s.pc, s.read (BitVec.ofNat 16 (s.pc.toNat + 1)), s.read (BitVec.ofNat 16 (s.pc.toNat + 2))] := by
  rw [fetchBytes, add_ofNat_eq_ofNat, add_ofNat_eq_ofNat]

/-- R35, R111: PC past the bytes of an instruction, in numbers. -/
theorem fetched_instrLength (i : Instr) (s : State) :
    fetched (instrLength i) s = { s with pc := BitVec.ofNat 16 (s.pc.toNat + (encode i).length) } := by
  rw [length_encode, ← add_ofNat_eq_ofNat]
  rfl

/-- R95, R112: the bytes fetched decode wherever the first is a valid opcode byte; no template takes more than two. -/
theorem decode_fetchBytes_of_valid {s : State} (h : s.read s.pc ∉ invalidBytes) :
    ∃ i rest, decode (fetchBytes s) = .ok (i, rest) := by
  rw [← lookup_eq_none_iff] at h
  obtain ⟨r, hr⟩ := Option.ne_none_iff_exists'.mp h
  obtain ⟨i, rest, hfill⟩ := r.template.exists_fill (s.read (s.pc + 1#16)) (s.read (s.pc + 2#16)) []
  exact ⟨i, rest, decode_cons_eq_ok_iff.mpr ⟨r, hr, hfill⟩⟩

/-- Settles O44: a valid opcode byte decodes, exec writes neither `run`, `err` nor `cycles`, and the cost is charged. -/
theorem validOpcodeCompletes : Obligations.ValidOpcodeCompletes := by
  unfold Obligations.ValidOpcodeCompletes
  intro s hrun hvalid
  obtain ⟨i, rest, hdec⟩ := decode_fetchBytes_of_valid hvalid
  obtain ⟨t, hexec⟩ := exec_answers_next i (fetched (instrLength i) s)
  obtain ⟨run, err, cycles, -⟩ := (effect_of_exec hexec).keeps_engine
  obtain ⟨atLeast, atMost⟩ := cost_bounds i (fetched (instrLength i) s)
  refine ⟨_, step_of_exec hrun hdec hexec, run.trans hrun, err, ?_⟩
  rw [State.addCycles_cycles, cycles, fetched_cycles]
  exact ⟨Nat.add_le_add_left atLeast _, Nat.add_le_add_left atMost _⟩

/-- Settles O42, by the equation of a step that runs an instruction. -/
theorem stepRunsTheDecodedInstruction : Obligations.StepRunsTheDecodedInstruction := by
  unfold Obligations.StepRunsTheDecodedInstruction
  intro s i rest hrun hdec
  rw [← fetchBytes_eq] at hdec
  rw [← fetched_instrLength]
  obtain ⟨t, hexec⟩ := exec_answers_next i (fetched (instrLength i) s)
  refine ⟨t, hexec, ?_⟩
  rw [step_of_exec hrun hdec hexec, State.addCycles, cost, Nat.add_assoc]

/-! ### The cycle counter -/

theorem State.addCycles_right_comm (s : State) (m n : Nat) :
    (s.addCycles m).addCycles n = (s.addCycles n).addCycles m := by
  simp only [State.addCycles, Nat.add_right_comm]

theorem fetched_addCycles (k : Nat) (s : State) (n : Nat) :
    fetched k (s.addCycles n) = (fetched k s).addCycles n := rfl

/-- R132: the cost of an instruction does not depend on the cycle counter. -/
theorem cost_addCycles (i : Instr) (s : State) (n : Nat) : cost i (s.addCycles n) = cost i s := rfl

theorem branch_addCycles (taken : Bool) (d : Int) (s : State) (n : Nat) :
    branch taken d (s.addCycles n) = (branch taken d s).addCycles n := by
  rw [branch_eq, branch_eq]
  rfl

theorem takeBreak_addCycles (s : State) (n : Nat) : takeBreak (s.addCycles n) = (takeBreak s).addCycles n := by
  rw [takeBreak_eq, takeBreak_eq s]
  rfl

/-- R132: no instruction reads the cycle counter. -/
theorem exec_addCycles {i : Instr} {s t : State} (n : Nat) (h : exec i s = .next t) :
    exec i (s.addCycles n) = .next (t.addCycles n) := by
  cases i
  all_goals obtain rfl := Host.Outcome.next.inj h
  case bcc | bcs | beq | bne | bmi | bpl | bvc | bvs =>
    exact congrArg Host.Outcome.next (branch_addCycles _ _ s n)
  case brk => exact congrArg Host.Outcome.next (takeBreak_addCycles s n)
  all_goals rfl

/-- R132: one step from two states that differ in the cycle count alone leaves two that differ by the same amount. -/
theorem step_addCycles (s : State) (n : Nat) :
    ∃ t, step s = .next t ∧ step (s.addCycles n) = .next (t.addCycles n) := by
  rcases halted_or_running s with hrun | hrun
  · exact ⟨s, step_of_halted hrun, step_of_halted (s := s.addCycles n) hrun⟩
  · cases hdec : decode (fetchBytes s) with
    | error e =>
      exact ⟨haltInvalidOpcode s, step_of_decode_error hrun hdec,
        step_of_decode_error (s := s.addCycles n) hrun hdec⟩
    | ok out =>
      obtain ⟨i, rest⟩ := out
      obtain ⟨t, hexec⟩ := exec_answers_next i (fetched (instrLength i) s)
      have other := step_of_exec (s := s.addCycles n) hrun hdec (exec_addCycles n hexec)
      rw [fetched_addCycles, cost_addCycles, State.addCycles_right_comm] at other
      exact ⟨_, step_of_exec hrun hdec hexec, other⟩

/-- Settles O49, by induction on the number of steps, each of which keeps the difference of the counts. -/
theorem cyclesAreUnobservable : Obligations.CyclesAreUnobservable := by
  unfold Obligations.CyclesAreUnobservable
  intro k
  induction k with
  | zero => exact fun s n => ⟨s, rfl, rfl⟩
  | succ k ih =>
    intro s n
    obtain ⟨u, hstep, other⟩ := step_addCycles s n
    rw [run_succ_of_step k hstep]
    obtain ⟨t, hrun, hrunOther⟩ := ih u n
    exact ⟨t, hrun, (run_succ_of_step k other).trans hrunOther⟩

end Sys2Proof.Machine
end

section
/-! PROOFS. The ALU (family 41_alu.md): each flag computation and each shifted byte in numbers, what an operation of the
ALU answers as a result, and the forms of ADC, SBC, AND, ORA, EOR, ASL, LSR, ROL, ROR, CMP, CPX, CPY and BIT. -/

namespace Sys2Proof.Machine

open Sys2Proof Sys2Proof.Claims

/-! ### Signs -/

theorem and_0x80_ne_zero_iff (v : Byte) : v &&& 0x80#8 ≠ 0#8 ↔ v.getLsbD 7 = true := by
  have mask : v &&& 0x80#8 = if v.getLsbD 7 then 0x80#8 else 0#8 := BitVec.and_twoPow v 7
  rw [mask]
  cases v.getLsbD 7
  all_goals decide

/-- R140: the condition of V, by the signs (bit 7) of the operands and of the result. -/
theorem overflow_iff (a m r : Byte) : (~~~(a ^^^ m) &&& (m ^^^ r) &&& 0x80#8) ≠ 0#8 ↔
    (128 ≤ a.toNat ↔ 128 ≤ m.toNat) ∧ ¬(128 ≤ a.toNat ↔ 128 ≤ r.toNat) := by
  have signs : (~~~(a ^^^ m) &&& (m ^^^ r)).getLsbD 7 = true ↔
      a.getLsbD 7 = m.getLsbD 7 ∧ m.getLsbD 7 ≠ r.getLsbD 7 := by
    simp
  rw [and_0x80_ne_zero_iff, signs]
  simp only [bit7_iff, Ne, decide_eq_decide]
  exact and_congr_right fun same => by rw [same]

/-- R15: the two's complement value of a byte. -/
theorem toInt_byte (v : Byte) : v.toInt = if 128 ≤ v.toNat then (v.toNat : Int) - 256 else v.toNat := by
  rw [BitVec.toInt_eq_toNat_cond]
  split_ifs
  all_goals omega

theorem toNat_not_byte (m : Byte) : (~~~m).toNat = 255 - m.toNat := BitVec.toNat_not

/-- R141: the one's complement of a byte is `-m - 1`. -/
theorem toInt_not_byte (m : Byte) : (~~~m).toInt = -m.toInt - 1 := by
  have hm := m.isLt
  rw [toInt_byte, toInt_byte, toNat_not_byte]
  omega

/-- The one's complement of a byte has the other sign. -/
theorem sameSign_not_iff (a m : Byte) :
    (128 ≤ a.toNat ↔ 128 ≤ (~~~m).toNat) ↔ ¬(128 ≤ a.toNat ↔ 128 ≤ m.toNat) := by
  rw [toNat_not_byte]
  omega

/-! ### Add and subtract -/

/-- R140: the flags of an addition, in numbers. -/
theorem Flags.adc_eq (f : Flags) (a m : Byte) : f.adc a m =
    { f with
      n := decide (128 ≤ adcSum a m f.c % 256)
      v := decide ((128 ≤ a.toNat ↔ 128 ≤ m.toNat) ∧ ¬(128 ≤ a.toNat ↔ 128 ≤ adcSum a m f.c % 256))
      z := decide (adcSum a m f.c % 256 = 0)
      c := decide (256 ≤ adcSum a m f.c) } := by
  simp only [Flags.adc, Flags.setNZ_eq, overflow_iff, toNat_adcResult]
  rfl

/-- R140: V is clear exactly when the result, read as a signed number, is the exact signed sum: otherwise the two differ
by 256. -/
theorem Flags.adc_v_eq_false_iff (f : Flags) (a m : Byte) :
    (f.adc a m).v = false ↔ (adcResult a m f.c).toInt = a.toInt + m.toInt + f.c.toNat := by
  have ha := a.isLt
  have hm := m.isLt
  have hc := f.c.toNat_le
  rw [Flags.adc_eq, decide_eq_false_iff_not]
  simp only [toInt_byte, toNat_adcResult, adcSum]
  omega

/-- R141: the sum with the operand's one's complement is the difference. -/
theorem adcSum_not (s : State) (m : Byte) : adcSum s.a (~~~m) s.flags.c = difference s m := by
  have hm := m.isLt
  have hc := s.flags.c.toNat_le
  rw [adcSum, difference, toNat_not_byte]
  omega

/-- R141: C, "no borrow". -/
theorem le_difference_iff (s : State) (m : Byte) :
    256 ≤ difference s m ↔ m.toNat + (1 - s.flags.c.toNat) ≤ s.a.toNat := by
  have hm := m.isLt
  rw [difference]
  omega

/-- R140: an instruction that does `adc` has the result of ADC. -/
theorem adcNext_of_exec {s : State} {i : Instr} {m : Byte} (h : exec i s = .next (adc m s)) : AdcNext s i m := by
  rw [AdcNext, h, adc_eq, Flags.adc_eq]
  rfl

/-- R141: an instruction that does `sbc` has the result of SBC. -/
theorem sbcNext_of_exec {s : State} {i : Instr} {m : Byte} (h : exec i s = .next (sbc m s)) : SbcNext s i m := by
  rw [SbcNext, h, sbc_eq, Flags.adc_eq, adcResult, adcSum_not]
  simp only [sameSign_not_iff, le_difference_iff]

/-! ### Logic, compare and bit test -/

/-- R17. -/
theorem Flags.setNZ_eq_nz (f : Flags) (r : Byte) : f.setNZ r = nz f r := f.setNZ_eq r

/-- R149: the flags of a comparison, in numbers. -/
theorem Flags.compare_eq (f : Flags) (reg m : Byte) : f.compare reg m =
    { f with
      c := decide (m.toNat ≤ reg.toNat)
      z := decide (reg.toNat = m.toNat)
      n := decide (128 ≤ (reg.toNat + 256 - m.toNat) % 256) } := by
  have diff : (reg - m).toNat = (reg.toNat + 256 - m.toNat) % 256 := by
    have hm := m.isLt
    rw [BitVec.toNat_sub]
    omega
  simp only [Flags.compare, bit7_iff, diff, BitVec.toNat_inj]

/-- R152: the flags of a bit test, in numbers. -/
theorem Flags.bitTest_eq (f : Flags) (a m : Byte) : f.bitTest a m =
    { f with
      n := decide (128 ≤ m.toNat)
      v := decide (64 ≤ m.toNat % 128)
      z := decide (a &&& m = 0#8) } := by
  have bit6 : m.getLsbD 6 = decide (64 ≤ m.toNat % 128) := by
    rw [getLsbD_eq_decide, decide_eq_decide]
    omega
  rw [Flags.bitTest, bit7_iff, bit6]

/-- R17: an instruction that does `loadA` loads A. -/
theorem loadsA_of_exec {s : State} {i : Instr} {r : Byte} (h : exec i s = .next (loadA r s)) : LoadsA s i r := by
  rw [LoadsA, h, loadA_eq, Flags.setNZ_eq_nz]

/-- R149 to R151: an instruction that sets the flags of a comparison has the result of a comparison. -/
theorem compareNext_of_exec {s : State} {i : Instr} {reg m : Byte}
    (h : exec i s = .next (s.setFlags (s.flags.compare reg m))) : CompareNext reg s i m := by
  rw [CompareNext, h, Flags.compare_eq]
  rfl

/-- R152: an instruction that does `bitTest` has the result of BIT. -/
theorem bitNext_of_exec {s : State} {i : Instr} {m : Byte} (h : exec i s = .next (bitTest m s)) : BitNext s i m := by
  rw [BitNext, h, bitTest_eq, Flags.bitTest_eq]

/-! ### Shifts and rotates -/

theorem toNat_flagBit (f : Bool) {k : Nat} (hk : k < 8) : (flagBit f k).toNat = 2 ^ k * f.toNat := by
  cases f
  case false => rfl
  case true => exact (BitVec.toNat_twoPow_of_lt hk).trans (Nat.mul_one _).symm

theorem aslByte_eq (c : Bool) (v : Byte) : aslByte c v = BitVec.ofNat 8 (2 * v.toNat) := by
  apply BitVec.eq_of_toNat_eq
  rw [aslByte, BitVec.toNat_shiftLeft, Nat.shiftLeft_eq, Nat.mul_comm]
  rfl

theorem lsrByte_eq (c : Bool) (v : Byte) : lsrByte c v = BitVec.ofNat 8 (v.toNat / 2) := by
  apply BitVec.eq_of_toNat_eq
  have hv := v.isLt
  rw [lsrByte, BitVec.toNat_ushiftRight, Nat.shiftRight_eq_div_pow, BitVec.toNat_ofNat]
  omega

/-- R147: the carry enters the bit that the shift leaves 0. -/
theorem rolByte_eq (c : Bool) (v : Byte) : rolByte c v = BitVec.ofNat 8 (2 * v.toNat + c.toNat) := by
  have join := Nat.two_pow_add_eq_or_of_lt (i := 1) (b := c.toNat) c.toNat_lt (v.toNat % 128)
  apply BitVec.eq_of_toNat_eq
  have low : (v <<< 1).toNat = 2 ^ 1 * (v.toNat % 128) := by
    rw [BitVec.toNat_shiftLeft, Nat.shiftLeft_eq]
    omega
  rw [rolByte, BitVec.toNat_or, low, toNat_flagBit c (by decide), Nat.pow_zero, Nat.one_mul, ← join,
    BitVec.toNat_ofNat]
  have := c.toNat_lt
  omega

/-- R148: the carry enters the bit that the shift leaves 0. -/
theorem rorByte_eq (c : Bool) (v : Byte) : rorByte c v = BitVec.ofNat 8 (v.toNat / 2 + 128 * c.toNat) := by
  have hv := v.isLt
  have join := Nat.two_pow_add_eq_or_of_lt (i := 7) (b := v.toNat / 2) (by omega) c.toNat
  apply BitVec.eq_of_toNat_eq
  rw [rorByte, BitVec.toNat_or, BitVec.toNat_ushiftRight, Nat.shiftRight_eq_div_pow, toNat_flagBit c (by decide),
    Nat.pow_one, ← join, BitVec.toNat_ofNat]
  have := c.toNat_lt
  omega

/-- The byte and the flags that `Modify` computes are those of a shift or rotate, in numbers: `value` of the old carry
and byte, and the carry from the old byte. -/
structure IsShift (byte : Bool → Byte → Byte) (flags : Flags → Byte → Byte → Flags) (value : Nat → Nat → Nat)
    (carry : Nat → Prop) [DecidablePred carry] : Prop where
  byte_eq : ∀ c v, byte c v = BitVec.ofNat 8 (value c.toNat v.toNat)
  flags_eq : ∀ f v r, flags f v r = { nz f r with c := decide (carry v.toNat) }

/-- R145, R147. -/
theorem Flags.shiftLeft_eq (f : Flags) (v r : Byte) :
    f.shiftLeft v r = { nz f r with c := decide (128 ≤ v.toNat) } := by
  rw [Flags.shiftLeft, Flags.setNZ_eq_nz, bit7_iff]

/-- R146, R148. -/
theorem Flags.shiftRight_eq (f : Flags) (v r : Byte) :
    f.shiftRight v r = { nz f r with c := decide (v.toNat % 2 = 1) } := by
  rw [Flags.shiftRight, Flags.setNZ_eq_nz, getLsbD_eq_decide, Nat.pow_zero, Nat.div_one]

theorem isShift_asl : IsShift aslByte Flags.shiftLeft (fun _ v => 2 * v) (fun v => 128 ≤ v) :=
  ⟨aslByte_eq, Flags.shiftLeft_eq⟩

theorem isShift_lsr : IsShift lsrByte Flags.shiftRight (fun _ v => v / 2) (fun v => v % 2 = 1) :=
  ⟨lsrByte_eq, Flags.shiftRight_eq⟩

theorem isShift_rol : IsShift rolByte Flags.shiftLeft (fun c v => 2 * v + c) (fun v => 128 ≤ v) :=
  ⟨rolByte_eq, Flags.shiftLeft_eq⟩

theorem isShift_ror : IsShift rorByte Flags.shiftRight (fun c v => v / 2 + 128 * c) (fun v => v % 2 = 1) :=
  ⟨rorByte_eq, Flags.shiftRight_eq⟩

/-- An instruction that writes one byte and the flags stores that byte and nothing else. -/
theorem storesNext_of_exec {s : State} {i : Instr} {ea : Word} {v : Byte} {f : Flags}
    (h : exec i s = .next ((s.write ea v).setFlags f)) : StoresNext s i ea v f :=
  ⟨_, h, s.read_write ea v, rfl⟩

section

variable {byte : Bool → Byte → Byte} {flags : Flags → Byte → Byte → Flags} {value : Nat → Nat → Nat}
  {carry : Nat → Prop} [DecidablePred carry]

/-- R127, `Modify` on the accumulator. -/
theorem IsShift.shiftsA_of_exec (shift : IsShift byte flags value carry) {s : State} {i : Instr}
    (h : exec i s = .next (modifyA byte flags s)) : ShiftsA value carry s i := by
  rw [ShiftsA, h, modifyA_eq, shift.flags_eq, shift.byte_eq]

/-- R127, `Modify` on the memory byte at `ea`. -/
theorem IsShift.shiftsByte_of_exec (shift : IsShift byte flags value carry) {s : State} {i : Instr} {ea : Word}
    (h : exec i s = .next (modifyAt byte flags ea s)) : ShiftsByte value carry s i ea := by
  rw [ShiftsByte, ← shift.flags_eq, ← shift.byte_eq]
  exact storesNext_of_exec h

end

end Sys2Proof.Machine

namespace Sys2Proof

open Machine Claims

/-! ### The forms of each instruction -/

/-- Settles O10: every form does `adc` with the byte of its mode. -/
theorem adcResult : Obligations.AdcResult := by
  unfold Obligations.AdcResult
  intro s
  and_intros
  all_goals exact fun _ => ⟨rfl, adcNext_of_exec rfl⟩

/-- Settles O11: every form does `sbc` with the byte of its mode. -/
theorem sbcResult : Obligations.SbcResult := by
  unfold Obligations.SbcResult
  intro s
  and_intros
  all_goals exact fun _ => ⟨rfl, sbcNext_of_exec rfl⟩

/-- Settles O12: SBC adds `-M - 1`, so that its exact difference is the exact sum of the addition it does. -/
theorem overflowIsSignedOverflow : Obligations.OverflowIsSignedOverflow := by
  unfold Obligations.OverflowIsSignedOverflow
  intro s m
  have difference_eq :
      s.a.toInt + (~~~m).toInt + s.flags.c.toNat = s.a.toInt - m.toInt - (1 - s.flags.c.toNat : Int) := by
    rw [toInt_not_byte]
    ring
  refine ⟨⟨_, rfl, s.flags.adc_v_eq_false_iff s.a m⟩, _, rfl, ?_⟩
  rw [← difference_eq]
  exact s.flags.adc_v_eq_false_iff s.a (~~~m)

/-- Settles O13: every form loads A with the operation of A and the byte of its mode. -/
theorem logicResults : Obligations.LogicResults := by
  unfold Obligations.LogicResults
  intro s andNext oraNext eorNext
  and_intros
  all_goals exact fun _ => ⟨rfl, loadsA_of_exec rfl⟩

/-- Settles O14: `Modify` with the byte and the flags of ASL, on A or at the effective address of the form. -/
theorem aslResult : Obligations.AslResult := by
  unfold Obligations.AslResult
  intro s
  refine ⟨⟨rfl, isShift_asl.shiftsA_of_exec rfl⟩, ?_, ?_, ?_, ?_⟩
  all_goals exact fun _ => ⟨rfl, isShift_asl.shiftsByte_of_exec rfl⟩

/-- Settles O15: `Modify` with the byte and the flags of LSR. -/
theorem lsrResult : Obligations.LsrResult := by
  unfold Obligations.LsrResult
  intro s
  refine ⟨⟨rfl, isShift_lsr.shiftsA_of_exec rfl⟩, ?_, ?_, ?_, ?_⟩
  all_goals exact fun _ => ⟨rfl, isShift_lsr.shiftsByte_of_exec rfl⟩

/-- Settles O16: `Modify` with the byte and the flags of ROL. -/
theorem rolResult : Obligations.RolResult := by
  unfold Obligations.RolResult
  intro s
  refine ⟨⟨rfl, isShift_rol.shiftsA_of_exec rfl⟩, ?_, ?_, ?_, ?_⟩
  all_goals exact fun _ => ⟨rfl, isShift_rol.shiftsByte_of_exec rfl⟩

/-- Settles O17: `Modify` with the byte and the flags of ROR. -/
theorem rorResult : Obligations.RorResult := by
  unfold Obligations.RorResult
  intro s
  refine ⟨⟨rfl, isShift_ror.shiftsA_of_exec rfl⟩, ?_, ?_, ?_, ?_⟩
  all_goals exact fun _ => ⟨rfl, isShift_ror.shiftsByte_of_exec rfl⟩

/-- Settles O18: every form sets the flags of a comparison of A with the byte of its mode. -/
theorem cmpResult : Obligations.CmpResult := by
  unfold Obligations.CmpResult
  intro s
  and_intros
  all_goals exact fun _ => ⟨rfl, compareNext_of_exec rfl⟩

/-- Settles O19: as O18, of X and of Y. -/
theorem cpxCpyResults : Obligations.CpxCpyResults := by
  unfold Obligations.CpxCpyResults
  intro s
  and_intros
  all_goals exact fun _ => ⟨rfl, compareNext_of_exec rfl⟩

/-- Settles O20: both forms do `bitTest` with the byte of their mode. -/
theorem bitResult : Obligations.BitResult := by
  unfold Obligations.BitResult
  intro s
  and_intros
  all_goals exact fun _ => ⟨rfl, bitNext_of_exec rfl⟩

end Sys2Proof
end

section
/-! PROOFS. The branches (family 42_branch.md): the next state of the shared mechanism in numbers, and the condition of
each of the eight branches. -/

namespace Sys2Proof.Machine

open Sys2Proof Sys2Proof.Claims

/-- R160: PC after the shared mechanism, in numbers. -/
theorem toNat_branch_pc {taken : Bool} {p : Prop} [Decidable p] (cond : taken = true ↔ p) (d : Int) (s : State) :
    ((branch taken d s).pc.toNat : Int) = if p then (s.pc.toNat + d) % 65536 else s.pc.toNat := by
  simp only [branch_eq, cond]
  split
  · exact toNat_branchTarget s.pc d
  · rfl

/-- R160: an instruction that is the shared mechanism on a condition branches on it. -/
theorem branchNext_of_exec {taken : Bool} {p : Prop} [Decidable p] (cond : taken = true ↔ p) {s : State} {i : Instr}
    {d : Int} (h : exec i s = .next (branch taken d s)) : BranchNext p s i d := by
  refine ⟨branch taken d s, h, toNat_branch_pc cond d s, ?_⟩
  rw [branch_eq]

/-- R162, R163, R165, R168: the polarity of the branches taken on a set flag. -/
theorem branchNext_of_exec_set {flag : Bool} {s : State} {i : Instr} {d : Int}
    (h : exec i s = .next (branch flag d s)) : BranchNext (flag = true) s i d :=
  branchNext_of_exec Iff.rfl h

/-- R161, R164, R166, R167: the polarity of the branches taken on a clear flag. -/
theorem branchNext_of_exec_clear {flag : Bool} {s : State} {i : Instr} {d : Int}
    (h : exec i s = .next (branch (!flag) d s)) : BranchNext (flag = false) s i d :=
  branchNext_of_exec (iff_of_eq (Bool.not_eq_true' flag)) h

end Sys2Proof.Machine

namespace Sys2Proof

open Machine Claims

/-- Settles O21: BCS, BEQ, BMI and BVS are the shared mechanism on their flag, BCC, BNE, BPL and BVC on its negation. -/
theorem branchResults : Obligations.BranchResults := by
  unfold Obligations.BranchResults
  intro s
  refine ⟨?bcc, ?bcs, ?beq, ?bne, ?bmi, ?bpl, ?bvc, ?bvs⟩
  case bcs | beq | bmi | bvs => exact fun _ => ⟨rfl, branchNext_of_exec_set rfl⟩
  case bcc | bne | bpl | bvc => exact fun _ => ⟨rfl, branchNext_of_exec_clear rfl⟩

end Sys2Proof
end

section
/-! PROOFS. Increment and decrement (family 43_incdec.md): a count by one of a byte in numbers, what a count in memory
answers, and the loads of X and of Y that a count of a register is. -/

namespace Sys2Proof.Machine

open Sys2Proof Sys2Proof.Claims

/-! ### The counted byte -/

/-- R15: the sum of a byte and a number, modulo 256. -/
theorem byte_add_ofNat_eq_ofNat (v : Byte) (n : Nat) : v + BitVec.ofNat 8 n = BitVec.ofNat 8 (v.toNat + n) := by
  rw [BitVec.ofNat_add, BitVec.ofNat_toNat, BitVec.setWidth_eq]

/-- R170, R172, R173. -/
theorem byte_add_one_eq_ofNat (v : Byte) : v + 1#8 = BitVec.ofNat 8 (v.toNat + 1) := byte_add_ofNat_eq_ofNat v 1

/-- R171, R174, R175: one less is 255 more, modulo 256. -/
theorem byte_sub_one_eq_ofNat (v : Byte) : v - 1#8 = BitVec.ofNat 8 (v.toNat + 255) :=
  (BitVec.sub_eq_add_neg v 1#8).trans (byte_add_ofNat_eq_ofNat v 255)

theorem incByte_eq (c : Bool) (v : Byte) : incByte c v = BitVec.ofNat 8 (v.toNat + 1) := byte_add_one_eq_ofNat v

theorem decByte_eq (c : Bool) (v : Byte) : decByte c v = BitVec.ofNat 8 (v.toNat + 255) := byte_sub_one_eq_ofNat v

/-! ### What a count answers -/

/-- R127: an instruction whose `Modify` adds `n` to a byte and sets N and Z from the result counts that byte. -/
theorem countsByte_of_exec {byte : Bool → Byte → Byte} {n : Nat}
    (count : ∀ c v, byte c v = BitVec.ofNat 8 (v.toNat + n)) {s : State} {i : Instr} {ea : Word}
    (h : exec i s = .next (modifyAt byte Flags.counted ea s)) : CountsByte n s i ea := by
  rw [CountsByte, ← count s.flags.c, ← Flags.setNZ_eq_nz]
  exact storesNext_of_exec h

/-- R17: an instruction that does `loadX` loads X. -/
theorem loadsX_of_exec {s : State} {i : Instr} {r : Byte} (h : exec i s = .next (loadX r s)) : LoadsX s i r := by
  rw [LoadsX, h, loadX_eq, Flags.setNZ_eq_nz]

/-- R17: an instruction that does `loadY` loads Y. -/
theorem loadsY_of_exec {s : State} {i : Instr} {r : Byte} (h : exec i s = .next (loadY r s)) : LoadsY s i r := by
  rw [LoadsY, h, loadY_eq, Flags.setNZ_eq_nz]

end Sys2Proof.Machine

namespace Sys2Proof

open Machine Claims

/-- Settles O22: every form does `Modify` at its effective address, INC with a byte one more and DEC with one less. -/
theorem incDecMemoryResults : Obligations.IncDecMemoryResults := by
  unfold Obligations.IncDecMemoryResults
  intro s
  constructor
  case left =>
    and_intros
    all_goals exact fun _ => ⟨rfl, countsByte_of_exec incByte_eq rfl⟩
  case right =>
    and_intros
    all_goals exact fun _ => ⟨rfl, countsByte_of_exec decByte_eq rfl⟩

/-- Settles O23: each of the four loads its register with the register's own value counted by one. -/
theorem incDecRegisterResults : Obligations.IncDecRegisterResults := by
  unfold Obligations.IncDecRegisterResults
  intro s
  simp only [← byte_add_one_eq_ofNat, ← byte_sub_one_eq_ofNat]
  exact ⟨⟨rfl, loadsX_of_exec rfl⟩, ⟨rfl, loadsY_of_exec rfl⟩, ⟨rfl, loadsX_of_exec rfl⟩, ⟨rfl, loadsY_of_exec rfl⟩⟩

end Sys2Proof
end

section
/-! PROOFS. Loads, register transfers and stores (family 44_load_store_transfer.md): what a store of a register answers,
and the forms of each instruction. -/

namespace Sys2Proof.Machine

open Sys2Proof Sys2Proof.Claims

/-- R189 to R191: an instruction that does `store8` stores that byte, and changes no flag. -/
theorem stores_of_exec {s : State} {i : Instr} {e : EffAddr} {v : Byte} (h : exec i s = .next (store8 e v s)) :
    Stores v s i e.ea :=
  storesNext_of_exec h

end Sys2Proof.Machine

namespace Sys2Proof

open Machine Claims

/-- Settles O24: every form loads its register with the byte of its mode. -/
theorem loadResults : Obligations.LoadResults := by
  unfold Obligations.LoadResults
  intro s
  refine ⟨?lda, ?ldx, ?ldy⟩
  case lda =>
    and_intros
    all_goals exact fun _ => ⟨rfl, loadsA_of_exec rfl⟩
  case ldx =>
    and_intros
    all_goals exact fun _ => ⟨rfl, loadsX_of_exec rfl⟩
  case ldy =>
    and_intros
    all_goals exact fun _ => ⟨rfl, loadsY_of_exec rfl⟩

/-- Settles O25: five of the six load their destination with the source register; TXS writes SP alone. -/
theorem transferResults : Obligations.TransferResults := by
  unfold Obligations.TransferResults
  intro s
  refine ⟨?tax, ?tay, ?txa, ?tya, ?tsx, ?txs⟩
  case tax | tsx => exact ⟨rfl, loadsX_of_exec rfl⟩
  case tay => exact ⟨rfl, loadsY_of_exec rfl⟩
  case txa | tya => exact ⟨rfl, loadsA_of_exec rfl⟩
  case txs => exact ⟨rfl, rfl⟩

/-- Settles O26: every form does `store8` of its register at its effective address. -/
theorem storeResults : Obligations.StoreResults := by
  unfold Obligations.StoreResults
  intro s
  and_intros
  all_goals exact fun _ => ⟨rfl, stores_of_exec rfl⟩

end Sys2Proof
end

section
/-! PROOFS. Stack and jumps (family 45_stack_jump.md): the bytes and the status byte in numbers, what a push and a pull of
a byte or of an address leave, and the results of each instruction and of each pair of them. -/

namespace Sys2Proof.Machine

open Sys2Proof Sys2Proof.Claims

/-! ### Bytes and words in numbers -/

theorem lowByte_eq_ofNat (w : Word) : lowByte w = BitVec.ofNat 8 (w.toNat % 256) := by
  rw [← toNat_lowByte, BitVec.ofNat_toNat, BitVec.setWidth_eq]

theorem highByte_eq_ofNat (w : Word) : highByte w = BitVec.ofNat 8 (w.toNat / 256) := by
  rw [← toNat_highByte, BitVec.ofNat_toNat, BitVec.setWidth_eq]

/-- R204: one less is 65535 more, modulo 0x10000. -/
theorem toNat_word_sub_one (w : Word) : (w - 1#16).toNat = (w.toNat + 65535) % 65536 := by
  have wrapped : w - 1#16 = BitVec.ofNat 16 (w.toNat + 65535) :=
    (BitVec.sub_eq_add_neg w 1#16).trans (add_ofNat_eq_ofNat w 65535)
  rw [wrapped, BitVec.toNat_ofNat]

/-- R15: the sum of a little-endian word and a number, modulo 0x10000. -/
theorem wordOf_add_ofNat (lo hi : Byte) (n : Nat) :
    wordOf lo hi + BitVec.ofNat 16 n = BitVec.ofNat 16 (number lo hi + n) := by
  rw [add_ofNat_eq_ofNat, toNat_wordOf, number]

theorem wordOf_eq_ofNat (lo hi : Byte) : wordOf lo hi = BitVec.ofNat 16 (number lo hi) := by
  rw [← BitVec.add_zero (wordOf lo hi), wordOf_add_ofNat, Nat.add_zero]

/-! ### The status byte -/

/-- R201, R207: the status byte as it is pushed, in numbers, for each of the 128 settings of the flags. -/
theorem Flags.pushed_eq (f : Flags) : f.pushed = pushedStatus f := by
  obtain ⟨n, v, b, d, i, z, c⟩ := f
  revert n v b d i z c
  decide

/-! ### The stack bytes above SP -/

theorem above_one (s : State) : above s 1 = stackAddr (s.sp + 1#8) := rfl

theorem above_two (s : State) : above s 2 = stackAddr (s.sp + 1#8 + 1#8) :=
  congrArg stackAddr (BitVec.add_assoc s.sp 1#8 1#8).symm

theorem above_three (s : State) : above s 3 = stackAddr (s.sp + 1#8 + 1#8 + 1#8) :=
  congrArg stackAddr (by rw [BitVec.add_assoc, BitVec.add_assoc]; rfl)

/-! ### Pushes -/

/-- R200, R201: what an instruction that does `push` answers. -/
theorem push_of_exec {s : State} {i : Instr} {v : Byte} (h : exec i s = .next (s.push v)) :
    ∃ t, exec i s = .next t ∧ (∀ b, t.read b = if b = below s 0 then v else s.read b) ∧
      t.sp.toNat = (s.sp.toNat + 255) % 256 ∧ t = { s with sp := t.sp, mem := t.mem } := by
  refine ⟨_, h, fun b => ?_, s.toNat_push_sp v, rfl⟩
  rw [State.read_push, below_zero]

/-- R204: the bytes a pushed address leaves, in numbers. -/
theorem State.read_pushWord_eq (s : State) (w : Word) (b : Word) :
    (s.pushWord w).read b =
      if b = below s 1 then BitVec.ofNat 8 (w.toNat % 256)
      else if b = below s 0 then BitVec.ofNat 8 (w.toNat / 256)
      else s.read b := by
  rw [State.read_pushWord, below_zero, below_one, lowByte_eq_ofNat, highByte_eq_ofNat]

/-- R204: pushing an address leaves every byte but two as it was. -/
theorem State.read_pushWord_other (s : State) (w : Word) {b : Word} (h0 : b ≠ below s 0) (h1 : b ≠ below s 1) :
    (s.pushWord w).read b = s.read b := by
  rw [State.read_pushWord_eq, if_neg h1, if_neg h0]

/-- R65, R204: the SP a pushed address leaves, in numbers. -/
theorem State.toNat_pushWord_sp (s : State) (w : Word) : (s.pushWord w).sp.toNat = (s.sp.toNat + 254) % 256 := by
  rw [State.pushWord, State.toNat_push_sp, State.toNat_push_sp]
  omega

/-- R65, R207: the SP BRK's entry leaves, in numbers: an address and the status byte are pushed. -/
theorem toNat_takeBreak_sp (s : State) : (takeBreak s).sp.toNat = (s.sp.toNat + 253) % 256 := by
  have entry : (takeBreak s).sp = s.sp - 1#8 - 1#8 - 1#8 := congrArg State.sp (takeBreak_eq s)
  rw [entry]
  bv_omega

/-! ### Pulls -/

/-- R205: a pull of an address writes SP alone. -/
theorem State.unpushWord_eq (s : State) : s.unpushWord = { s with sp := s.sp + 1#8 + 1#8 } := rfl

/-- R205: the address a pull after a push answers is the address pushed. -/
theorem State.pulledWord_pushWord (s : State) (w : Word) : (s.pushWord w).pulledWord = w := by
  have distinct : stackAddr s.sp ≠ stackAddr (s.sp - 1#8) := by
    rw [Ne, stackAddr_inj]
    bv_omega
  rw [State.pulledWord_eq, State.pushWord_sp, BitVec.sub_add_cancel, BitVec.sub_add_cancel, State.read_pushWord,
    State.read_pushWord, if_pos rfl, if_neg distinct, if_pos rfl, wordOf_lowByte_highByte]

/-- R65: once an address is pushed and pulled, memory alone differs. -/
theorem State.unpushWord_pushWord (s : State) (w : Word) :
    (s.pushWord w).unpushWord = { s with mem := (s.pushWord w).mem } := by
  rw [State.unpushWord_eq, State.pushWord_sp, BitVec.sub_add_cancel, BitVec.sub_add_cancel, State.pushWord_eq]

/-- R205: what RTS does turns on the stack alone, and not on where it stands. -/
theorem exec_rts_setPc (s : State) (w p : Word) :
    exec .rts { s.setPc w with pc := p } = .next (s.unpushWord.setPc (s.pulledWord + 1#16)) := rfl

end Sys2Proof.Machine

namespace Sys2Proof

open Machine Claims

/-! ### The result of each instruction -/

/-- Settles O28: PHA pushes A and PHP the status byte. -/
theorem pushResults : Obligations.PushResults := by
  unfold Obligations.PushResults
  intro s
  rw [← Flags.pushed_eq]
  exact ⟨⟨rfl, push_of_exec rfl⟩, rfl, push_of_exec rfl⟩

/-- Settles O29: PLA loads A, as LDA does, and PLP the flags, each with the byte pulled. -/
theorem pullResults : Obligations.PullResults := by
  unfold Obligations.PullResults
  intro s
  rw [← byte_add_one_eq_ofNat, ← Flags.setNZ_eq_nz, ← Flags.ofByte_eq_flagsIn]
  exact ⟨⟨rfl, rfl⟩, rfl, rfl⟩

/-- Settles O30: the address pushed is PC - 1, which is 65535 more modulo 0x10000. -/
theorem jsrResult : Obligations.JsrResult := by
  unfold Obligations.JsrResult
  intro s w
  refine ⟨rfl, _, _, rfl, toNat_word_sub_one s.pc, fun b => ?_, s.toNat_pushWord_sp _, rfl, ?_⟩
  · rw [State.setPc_read, State.read_pushWord_eq]
  · rw [State.pushWord_eq]
    rfl

/-- Settles O31: the word pulled is made of the two bytes above SP. -/
theorem rtsResult : Obligations.RtsResult := by
  unfold Obligations.RtsResult
  intro s
  have rts : exec .rts s = .next { s with sp := s.sp + 1#8 + 1#8, pc := s.pulledWord + 1#16 } := rfl
  refine ⟨rfl, ?_⟩
  rw [rts, State.pulledWord_eq, wordOf_add_ofNat, above_one, above_two, ← byte_add_ofNat_eq_ofNat, BitVec.add_assoc]
  rfl

/-- Settles O32: the status byte and then the word pulled are the three bytes above SP. -/
theorem rtiResult : Obligations.RtiResult := by
  unfold Obligations.RtiResult
  intro s
  have rti : exec .rti s = .next (returnFromBreak s) := rfl
  refine ⟨rfl, ?_⟩
  rw [rti, returnFromBreak_eq, Flags.ofByte_eq_flagsIn, wordOf_eq_ofNat, above_one, above_two, above_three,
    ← byte_add_ofNat_eq_ofNat, BitVec.add_assoc, BitVec.add_assoc]
  rfl

/-- Settles O33: three bytes are pushed, none of them a byte of the vector; B is set before the status byte is pushed and
I after it. -/
theorem brkResult : Obligations.BrkResult := by
  unfold Obligations.BrkResult
  intro s
  have ret : (s.pc + 1#16).toNat = (s.pc.toNat + 1) % 65536 := BitVec.toNat_add s.pc 1#16
  have flags : (takeBreak s).flags = { s.flags with b := true, i := true } := congrArg State.flags (takeBreak_eq s)
  have pc : (takeBreak s).pc.toNat = number (s.read 0xFFFE#16) (s.read 0xFFFF#16) := by
    rw [takeBreak_pc, State.read16_eq, toNat_wordOf]
    rfl
  refine ⟨rfl, takeBreak s, _, rfl, ret, fun b => ?_, toNat_takeBreak_sp s, flags, pc, ?_⟩
  · rw [takeBreak_read, Flags.pushed_ignores_b, Flags.pushed_eq, lowByte_eq_ofNat, highByte_eq_ofNat, below_zero,
      below_one, below_two]
  · rw [takeBreak_eq]

/-- Settles O34: both write PC alone, with the effective address of the mode. -/
theorem jmpResults : Obligations.JmpResults := by
  unfold Obligations.JmpResults
  intro s w
  refine ⟨⟨rfl, rfl⟩, rfl, _, rfl, rfl, ?_⟩
  rw [State.setPc_pc, indirect_ea, toNat_wordOf]
  rfl

/-! ### The pairs -/

/-- Settles O36: RTS pulls the address JSR pushed, PC - 1, and adds the 1 again. -/
theorem jsrThenRtsReturns : Obligations.JsrThenRtsReturns := by
  unfold Obligations.JsrThenRtsReturns
  intro s w p
  have rts := exec_rts_setPc (s.pushWord (s.pc - 1#16)) w p
  rw [State.unpushWord_pushWord, State.pulledWord_pushWord, BitVec.sub_add_cancel] at rts
  exact ⟨_, _, rfl, rts, rfl, fun b h0 h1 => s.read_pushWord_other (s.pc - 1#16) h0 h1⟩

/-- Settles O38: the byte pulled is the byte pushed, and SP is as before. -/
theorem pullAfterPushRestores : Obligations.PullAfterPushRestores := by
  unfold Obligations.PullAfterPushRestores
  intro s v f
  have flags : Flags.ofByte (s.push s.flags.pushed).pulled = { s.flags with b := true } := by
    rw [State.pulled_push, Flags.ofByte_pushed]
  exact ⟨⟨_, _, rfl, rfl, s.pulled_push s.a, s.unpush_push_sp s.a⟩,
    _, _, rfl, rfl, flags, s.unpush_push_sp s.flags.pushed⟩

end Sys2Proof
end

section
/-! PROOFS. Flag instructions and NOP (family 46_flags_nop.md): what a write of the flags answers, and the results of each
instruction. -/

namespace Sys2Proof.Machine

open Sys2Proof

/-- R220 to R226: an instruction that does `setFlags` writes no field but the flags. -/
theorem flagsNext_of_exec {s : State} {i : Instr} {f : Flags} (h : exec i s = .next (s.setFlags f)) :
    exec i s = .next { s with flags := f } :=
  h

end Sys2Proof.Machine

namespace Sys2Proof

open Machine Claims

/-- Settles O35: each of the seven does `setFlags` with its one flag changed; NOP answers the state it is given. -/
theorem flagOpsResults : Obligations.FlagOpsResults := by
  unfold Obligations.FlagOpsResults
  intro s
  refine ⟨?sec, ?clc, ?sei, ?cli, ?sed, ?cld, ?clv, ?nop⟩
  case sec | clc | sei | cli | sed | cld | clv => exact ⟨rfl, flagsNext_of_exec rfl⟩
  case nop => exact ⟨rfl, rfl⟩

end Sys2Proof
end

section
/-! PROOFS. Exceptions and the halt (family 60_exceptions.md): what BRK saves and RTI restores, the halt of an invalid
opcode byte, and the halted engine. -/

namespace Sys2Proof.Machine

open Sys2Proof Sys2Proof.Claims

/-! ### BRK and its return -/

theorem byte_ne_sub_one (v : Byte) : v ≠ v - 1#8 := by bv_omega

theorem byte_ne_sub_two (v : Byte) : v ≠ v - 1#8 - 1#8 := by bv_omega

theorem takeBreak_sp (s : State) : (takeBreak s).sp = s.sp - 1#8 - 1#8 - 1#8 := congrArg State.sp (takeBreak_eq s)

/-- R241: the status byte BRK saves, the lowest of the three; the B it sets first makes no difference to it. -/
theorem takeBreak_saved_status (s : State) : (takeBreak s).read (stackAddr (s.sp - 1#8 - 1#8)) = s.flags.pushed := by
  rw [takeBreak_read, if_pos rfl, Flags.pushed_ignores_b]

/-- R241: the low byte of the return address BRK saves. -/
theorem takeBreak_saved_low (s : State) : (takeBreak s).read (stackAddr (s.sp - 1#8)) = lowByte (s.pc + 1#16) := by
  have notStatus : stackAddr (s.sp - 1#8) ≠ stackAddr (s.sp - 1#8 - 1#8) :=
    mt (stackAddr_inj _ _).mp (byte_ne_sub_one _)
  rw [takeBreak_read, if_neg notStatus, if_pos rfl]

/-- R241: the high byte of the return address BRK saves, the highest of the three. -/
theorem takeBreak_saved_high (s : State) : (takeBreak s).read (stackAddr s.sp) = highByte (s.pc + 1#16) := by
  have notStatus : stackAddr s.sp ≠ stackAddr (s.sp - 1#8 - 1#8) := mt (stackAddr_inj _ _).mp (byte_ne_sub_two _)
  have notLow : stackAddr s.sp ≠ stackAddr (s.sp - 1#8) := mt (stackAddr_inj _ _).mp (byte_ne_sub_one _)
  rw [takeBreak_read, if_neg notStatus, if_neg notLow, if_pos rfl]

/-- R242: what RTI does turns on the stack alone, and not on where it stands or the flags it finds. -/
theorem exec_rti_setPc_setFlags (s : State) (p : Word) (f : Flags) :
    exec .rti { s with pc := p, flags := f } = .next (returnFromBreak s) := rfl

/-- R241, R242: the return from BRK pulls the three bytes saved. -/
theorem returnFromBreak_takeBreak (s : State) :
    returnFromBreak (takeBreak s) =
      { s with pc := s.pc + 1#16, flags := { s.flags with b := true }, mem := (takeBreak s).mem } := by
  rw [returnFromBreak_eq, takeBreak_sp, BitVec.sub_add_cancel, BitVec.sub_add_cancel, BitVec.sub_add_cancel,
    takeBreak_saved_status, takeBreak_saved_low, takeBreak_saved_high, Flags.ofByte_pushed, wordOf_lowByte_highByte,
    takeBreak_eq]

/-! ### The halt -/

/-- R95, R112: an opcode byte with no table entry does not decode, whatever follows it. -/
theorem decode_fetchBytes_of_invalid {s : State} (h : s.read s.pc ∈ invalidBytes) :
    decode (fetchBytes s) = .error (.invalidOpcode (s.read s.pc)) :=
  decode_cons_eq_invalidOpcode_iff.mpr ((lookup_eq_none_iff _).mpr h)

/-- R231: the halt writes PC, `run` and `err` alone. -/
theorem haltInvalidOpcode_eq (s : State) :
    haltInvalidOpcode s =
      { s with
        pc := BitVec.ofNat 16 (s.pc.toNat + 1)
        run := .halted
        err := some (.invalidOpcode (s.read s.pc) s.pc) } := by
  rw [← add_ofNat_eq_ofNat]
  rfl

/-- R235: a halted engine stays as it is for any number of steps. -/
theorem run_of_halted (k : Nat) {s : State} (hrun : s.run = .halted) : Sys2Proof.core.run k s = .next s := by
  induction k with
  | zero => rfl
  | succ k ih => exact (run_succ_of_step k (step_of_halted hrun)).trans ih

theorem stepOutputs_of_halted {s : State} (hrun : s.run = .halted) : stepOutputs s = (s.cycles, true, s.err) := by
  rw [stepOutputs, decide_eq_true hrun]

end Sys2Proof.Machine

namespace Sys2Proof

open Machine Claims

/-- Settles O37: RTI pulls the bytes BRK saved, the status byte with bit 4 set and the address of the BRK + 2. -/
theorem brkThenRtiReturns : Obligations.BrkThenRtiReturns := by
  unfold Obligations.BrkThenRtiReturns
  intro s p f
  have rti := exec_rti_setPc_setFlags (takeBreak s) p f
  rw [returnFromBreak_takeBreak] at rti
  exact ⟨_, _, rfl, rti, BitVec.toNat_add s.pc 1#16, rfl⟩

/-- Settles O43: the byte does not decode, and a step that does not decode halts. -/
theorem invalidOpcodeHalts : Obligations.InvalidOpcodeHalts := by
  unfold Obligations.InvalidOpcodeHalts
  intro s hrun hinvalid
  rw [step_of_decode_error hrun (decode_fetchBytes_of_invalid hinvalid), haltInvalidOpcode_eq]

/-- Settles O45, by induction on the number of steps. -/
theorem haltedEngineIsInert : Obligations.HaltedEngineIsInert := by
  unfold Obligations.HaltedEngineIsInert
  exact fun k s hrun => ⟨run_of_halted k hrun, stepOutputs_of_halted hrun⟩

end Sys2Proof
end

section
/-! PROOFS. Reset and the cycle table (family 70_reset_and_hazards.md): the base cycle counts, what a reset writes and
keeps, and the state a loaded image starts in. -/

namespace Sys2Proof.Machine

open Sys2Proof Sys2Proof.Claims

/-! ### Reset -/

theorem resetOp_read (s : State) (b : Word) : (resetOp s).read b = s.read b := rfl

theorem resetOp_flags (s : State) : (resetOp s).flags = State.reset.flags := rfl

/-- R260: the status byte of a reset state: bit 5 and I. -/
theorem toByte_reset_flags : State.reset.flags.toByte = 0x24#8 := by decide

/-- R260: PC is the little-endian word at the reset vector. -/
theorem toNat_resetOp_pc (s : State) : (resetOp s).pc.toNat = number (s.read 0xFFFC#16) (s.read 0xFFFD#16) :=
  toNat_wordOf (s.read resetVector) (s.read (resetVector + 1#16))

/-- R262: a reset reads memory and the open parameter alone, which it keeps. -/
theorem resetOp_resetOp (s : State) : resetOp (resetOp s) = resetOp s := rfl

/-- R42, R260: on a canonical memory a reset leaves a state that meets the invariant. -/
theorem resetOp_inv {s : State} (wf : s.mem.wf = true) : (resetOp s).inv = true :=
  (State.inv_iff _).mpr ⟨wf, Iff.intro (fun _ => rfl) (fun _ => rfl)⟩

/-! ### Construction -/

/-- R261: the reset vector of a loaded image lies at offset 0x7FFC of a 32 KiB image and 0x3FFC of a 16 KiB image, which
is mirrored at 0xC000. -/
theorem exists_load_resetVector {image : List Byte} {offset : Nat}
    (size : image.length = 32768 ∧ offset = 0x7FFC ∨ image.length = 16384 ∧ offset = 0x3FFC) :
    ∃ m, load image = some m ∧ m.read 0xFFFC#16 = image.getD offset 0x00#8 ∧
      m.read 0xFFFD#16 = image.getD (offset + 1) 0x00#8 := by
  obtain ⟨of32k, of16k, -⟩ := loadMapsTheImage image
  rcases size with ⟨len, rfl⟩ | ⟨len, rfl⟩
  · obtain ⟨m, loaded, -, bytes⟩ := of32k len
    exact ⟨m, loaded, bytes 0xFFFC#16, bytes 0xFFFD#16⟩
  · obtain ⟨m, loaded, -, bytes⟩ := of16k len
    exact ⟨m, loaded, bytes 0xFFFC#16, bytes 0xFFFD#16⟩

/-- R263. -/
theorem construct_of_load {image : List Byte} {m : Memory} (cfg : Config) (h : load image = some m) :
    construct cfg image = some (resetOp { State.reset with mem := m, cfg := cfg }) := by
  rw [construct, h, Option.map_some]

end Sys2Proof.Machine

namespace Sys2Proof

open Machine Claims

/-- Settles O51, instruction by instruction, each against its cell of the table. -/
theorem baseCyclesTable : Obligations.BaseCyclesTable := by
  unfold Obligations.BaseCyclesTable
  intro i
  cases i
  all_goals rfl

/-- Settles O53: the registers' values are those of the definition, and the flags those of the fixed reset state; memory
is kept, so PC is read from the bytes of `s`. -/
theorem resetEffect : Obligations.ResetEffect := by
  unfold Obligations.ResetEffect
  intro s
  have status : (resetOp s).flags.toByte = 0x24#8 := (congrArg Flags.toByte (resetOp_flags s)).trans toByte_reset_flags
  exact ⟨rfl, rfl, rfl, rfl, rfl, status, toNat_resetOp_pc s, rfl, rfl, rfl, resetOp_read s, resetOp_resetOp s⟩

/-- Settles O55: a reset of the loaded memory, where the reset vector's word is the image's. -/
theorem constructionIsAReset : Obligations.ConstructionIsAReset := by
  unfold Obligations.ConstructionIsAReset
  intro cfg image offset size
  obtain ⟨m, loaded, low, high⟩ := exists_load_resetVector size
  refine ⟨_, construct_of_load cfg loaded, (resetOp_resetOp _).symm, resetOp_inv (load_wf loaded), rfl, rfl, ?_⟩
  rw [toNat_resetOp_pc, ← low, ← high]
  rfl

end Sys2Proof
end
